-- ==== Sys2Proof/Word.lean ====
section
/-! DEFINITION. The word types of the frames and of the registers (00_scope.md R12, 30_encoding.md R80 to R83). -/

namespace Sys2Proof

/-- A `u8`: `op`, `sel`, `channel`, `percent` (30_encoding.md R83). -/
abbrev Byte := BitVec 8

/-- A `u16`: `imm16`, and the GPT registers (30_encoding.md R83, 10_state.md R28 to R32). -/
abbrev Half := BitVec 16

/-- A `u24`: the SysTick registers (10_state.md R37). -/
abbrev Ticks := BitVec 24

/-- A `u32`: a whole frame word (30_encoding.md R81). -/
abbrev Word := BitVec 32

/-- A `u4`: a pin, a port or an EXTI line (30_encoding.md R83, R87). -/
abbrev Nibble := BitVec 4

end Sys2Proof
end

