-- ==== Sys2Proof/Config.lean ====
section
/-! DEFINITION. The parameters a model takes as arguments (00_scope.md R8, R9, R10), and the free values of `draw`
(00_scope.md R15). The formulas over them stand in Machine/Arith.lean. -/

namespace Sys2Proof

/-- The SysTick clock-source divider, 1 or 8 (10_state.md R35, 00_scope.md R9). -/
inductive ClkDiv where
  | div1
  | div8
  deriving DecidableEq, Repr

/-- The open parameters of 00_scope.md R9 and `US_CAPACITY` of R8. They are fixed before reset and no rule writes them
(70_reset_and_hazards.md R302 (d)). -/
structure Config where
  /-- `F_PCLK`, the peripheral clock frequency in Hz (R9). -/
  fPclk : Nat
  /-- `F_AHB`, the AHB clock frequency in Hz (R9). -/
  fAhb : Nat
  /-- `ST_DEFAULT_DIV`, the divider US_INIT initialises SysTick with (R9). -/
  stDefaultDiv : ClkDiv
  /-- `TICKTYPE_SET`, the legal `tickType` multipliers (R9). -/
  tickTypes : List Half
  /-- `US_CAPACITY`, the number of sensor records, 3 by default (R8). -/
  usCapacity : Nat
  /-- `TIMER_BASE[0..3]`, which no rule reads (R9, 20_memory.md R61). -/
  timerBase : Vector Nat 4
  deriving DecidableEq, Repr

/-- The reference configuration of 00_scope.md R10. `TIMER_BASE` is not part of it: the zeros are the model's
(DESIGN CHOICE, log 8, safe: no rule reads them). -/
def Config.reference : Config where
  fPclk := 8000000
  fAhb := 8000000
  stDefaultDiv := .div8
  tickTypes := [1, 1000]
  usCapacity := 3
  timerBase := Vector.replicate 4 0

/-- `draw(16)` of 00_scope.md R15: the k-th value drawn, of which nothing is known (DESIGN CHOICE, log 9, safe). -/
opaque Config.drawHalf : Nat → Half

/-- `draw(1)` of 00_scope.md R15: the k-th value drawn, of which nothing is known (DESIGN CHOICE, log 9, safe). -/
opaque Config.drawBit : Nat → Bool

/-- Whether an update event leaves the shadow reload as it is while a busy-wait whose target lies above that shadow runs.
70_reset_and_hazards.md R316 and R319 say that such a wait never reaches its target, 41_gpt_interval.md R143 writes the
load that lets it; nothing is known of the value, so both hold of the model (DESIGN CHOICE, log 22, safe). -/
opaque Config.waitHoldsShadow : Bool

end Sys2Proof
end

