-- ==== Sys2Proof/Syntax.lean ====
section
/-! DEFINITION. The commands and events of TSB, one constructor per row of spec/opcode_table.json (30_encoding.md R89,
R90), with every operand as the unsigned field the frame carries (R83). Selector values outside a legal set are operands
like any other: the operation's rule answers them with a failure response. -/

namespace Sys2Proof

/-- The two ports a frame arrives on (20_memory.md R60). -/
inductive Port where
  | command
  | event
  deriving DecidableEq, Repr

/-- The command formats: H is the header alone, HW adds `w1`, HWW adds `w1` and `w2` (30_encoding.md R81). -/
inductive Format where
  | h
  | hw
  | hww
  deriving DecidableEq, Repr

/-- The 32 commands and 3 events (30_encoding.md R89, R90). `t` is the timer ordinal and `id` the sensor index, both the
header's `sel`. -/
inductive Instr where
  /-- GPT_INIT, `w1` as R84 lays it out. -/
  | gptInit (t : Byte) (arr : Half) (unit dir : BitVec 2) (arpe uie : Bool) (ckd : BitVec 2)
  /-- GPT_ENABLE. -/
  | gptEnable (t : Byte)
  /-- GPT_DISABLE. -/
  | gptDisable (t : Byte)
  /-- GPT_SET_PRESCALER. -/
  | gptSetPrescaler (t : Byte) (psc : Half)
  /-- GPT_SET_PERIOD. -/
  | gptSetPeriod (t : Byte) (arr : Half)
  /-- GPT_SET_COUNT_DIRECTION, `dir` the whole `imm16` (R88). -/
  | gptSetCountDirection (t : Byte) (dir : Half)
  /-- GPT_SET_ARR_BUFFER, `on` the whole `imm16` (R88). -/
  | gptSetArrBuffer (t : Byte) (on : Half)
  /-- GPT_SET_INTERRUPT, `on` the whole `imm16` (R88). -/
  | gptSetInterrupt (t : Byte) (on : Half)
  /-- GPT_BUSY_WAIT. -/
  | gptBusyWait (t : Byte) (tickType : Half) (ticks : Word)
  /-- GPT_SET_INTERVAL_SINGLE. -/
  | gptSetIntervalSingle (t : Byte) (tickType : Half) (ticks cb : Word)
  /-- GPT_SET_INTERVAL_PERIODIC. -/
  | gptSetIntervalPeriodic (t : Byte) (tickType : Half) (ticks cb : Word)
  /-- GPT_GET_REMAINING_TIME. -/
  | gptGetRemainingTime (t : Byte)
  /-- GPT_GET_COUNTER_VALUE. -/
  | gptGetCounterValue (t : Byte)
  /-- GPT_PWM_INIT (R85). No rule reads `freq`. -/
  | gptPwmInit (t : Byte) (arr : Half) (channel mode : Byte) (freq : Word)
  /-- GPT_SET_DUTY_CYCLE (R86). -/
  | gptSetDutyCycle (t channel percent : Byte)
  /-- GPT_PWM_DEINIT, `channel` the whole `imm16` (R86). -/
  | gptPwmDeinit (t : Byte) (channel : Half)
  /-- ST_INIT, `clk` the whole `imm16` (R88). -/
  | stInit (clk : Half)
  /-- ST_INIT_RELOAD. -/
  | stInitReload (clk : Half) (reload : Word)
  /-- ST_SET_RELOAD. -/
  | stSetReload (reload : Word)
  /-- ST_START. -/
  | stStart
  /-- ST_STOP. -/
  | stStop
  /-- ST_RESET. -/
  | stReset
  /-- ST_GET_REMAINING. -/
  | stGetRemaining
  /-- ST_GET_ELAPSED. -/
  | stGetElapsed
  /-- ST_DELAY_US. -/
  | stDelayUs (us : Word)
  /-- ST_DELAY_MS. -/
  | stDelayMs (ms : Word)
  /-- ST_SET_INTERVAL_SINGLE. -/
  | stSetIntervalSingle (us cb : Word)
  /-- ST_SET_INTERVAL_PERIODIC. -/
  | stSetIntervalPeriodic (us cb : Word)
  /-- US_INIT (R87). -/
  | usInit (id : Byte) (range : Half) (echoPin echoPort trigPin trigPort : Nibble)
  /-- US_READ_DISTANCE. -/
  | usReadDistance (id : Byte)
  /-- US_SET_RANGE. -/
  | usSetRange (id : Byte) (cm : Half)
  /-- US_SET_STATE, `state` the whole `imm16` (R88). -/
  | usSetState (id : Byte) (state : Half)
  /-- The event GPT_TICK. -/
  | gptTick (t : Byte)
  /-- The event ST_TICK. -/
  | stTick
  /-- The event EXTI_EDGE. -/
  | extiEdge (line : Byte)
  deriving DecidableEq, Repr

end Sys2Proof
end

