-- ==== Sys2Proof/Machine/State.lean ====
section
/-! DEFINITION. The architectural state of TSB (10_state.md), the records it emits (30_encoding.md R92, R96, R97), the
reasons a step can stop, and the state after reset (10_state.md R47, 70_reset_and_hazards.md R300). -/

namespace Sys2Proof.Machine

/-! ## Output records -/

/-- The response status (30_encoding.md R92, 60_exceptions.md R270). -/
inductive Status where
  | ok
  | failParam
  | failConfig
  | illegal
  deriving DecidableEq, Repr

/-- GPIO pin modes (30_encoding.md R96). -/
inductive PinMode where
  | inputFloating
  | outputPushPull
  deriving DecidableEq, Repr

/-- GPIO levels (30_encoding.md R96). -/
inductive Level where
  | low
  | high
  deriving DecidableEq, Repr

/-- EXTI trigger edges: `Both` is the only one TSB uses (30_encoding.md R96). -/
inductive EdgeType where
  | both
  deriving DecidableEq, Repr

/-- The handler TSB registers with EXTI (30_encoding.md R96). -/
inductive Handler where
  | edgeHandler
  deriving DecidableEq, Repr

/-- The seven NVIC vectors that serve the EXTI lines (44_ultrasonic.md R233). -/
inductive IrqVector where
  | exti0
  | exti1
  | exti2
  | exti3
  | exti4
  | exti9_5
  | exti15_10
  deriving DecidableEq, Repr

/-- RCC peripherals TSB names: the GPIO port `p` (30_encoding.md R96). -/
inductive PeripheralId where
  | gpioPort (p : Nibble)
  deriving DecidableEq, Repr

/-- The RCC bus symbol (30_encoding.md R96). -/
inductive BusId where
  | gpioBus
  deriving DecidableEq, Repr

/-- Calls on the external collaborators (30_encoding.md R96). `gpioGetPinValue` is listed there and no rule emits it. -/
inductive Call where
  | rccEnablePeripheralClock (peripheral : PeripheralId) (bus : BusId)
  | gpioSetPinMode (port pin : Nibble) (mode : PinMode)
  | gpioSetPinValue (port pin : Nibble) (level : Level)
  | gpioGetPinValue (port pin : Nibble)
  | afioSetExtiPortMapping (line port : Nibble)
  | nvicEnableIrq (vector : IrqVector)
  | extiEnableLine (line : Nibble)
  | extiDisableLine (line : Nibble)
  | extiSetTriggerEdge (line : Nibble) (edge : EdgeType)
  | extiSetCallback (line : Nibble) (handler : Handler)
  deriving DecidableEq, Repr

/-- The units that invoke callbacks (30_encoding.md R97). -/
inductive TimerUnit where
  | gpt
  | st
  deriving DecidableEq, Repr

/-- A record of the output trace (10_state.md R24). -/
inductive Record where
  /-- The response frame of a command (30_encoding.md R92). -/
  | response (status : Status) (value : Word)
  /-- `CALL(f, args)` (30_encoding.md R96). -/
  | call (c : Call)
  /-- `CALLBACK(unit, index, cb)` (30_encoding.md R97). -/
  | callback (unit : TimerUnit) (index : Nat) (cb : Word)
  deriving DecidableEq, Repr

/-! ## GPT unit -/

/-- TimerIntervalMode (10_state.md R33). -/
inductive IntervalMode where
  | singleShot
  | periodic
  deriving DecidableEq, Repr

/-- A stored callback slot: mode and handle (10_state.md R33, R39). -/
structure Slot where
  mode : IntervalMode
  cb : Word
  deriving DecidableEq, Repr

/-- `DIR`, the count direction (10_state.md R26). -/
inductive CountDir where
  | up
  | down
  | center
  deriving DecidableEq, Repr

/-- `CKD`, the clock-division code; no rule reads it (10_state.md R26). -/
inductive ClockDivision where
  | ckd0
  | ckd1
  | ckd2
  deriving DecidableEq, Repr

/-- `OCM[c]`, a channel's compare mode (10_state.md R32). -/
inductive CompareMode where
  | off
  | pwmA
  | pwmB
  deriving DecidableEq, Repr

/-- The fields of one PWM channel (10_state.md R32). -/
structure Channel where
  /-- `CCR[c]`, the compare value. -/
  ccr : Half
  /-- `OCM[c]`, the compare mode. -/
  ocm : CompareMode
  /-- `CCE[c]`, channel enable. -/
  cce : Bool
  /-- `CCP[c]`, channel polarity. -/
  ccp : Bool
  deriving DecidableEq, Repr

/-- The fields of one timer (10_state.md R25 to R33). -/
structure Timer where
  /-- Set by GPT_INIT, never cleared (R25). -/
  inited : Bool
  /-- `CEN`, counter enable (R26). -/
  cen : Bool
  /-- `DIR` (R26). -/
  dir : CountDir
  /-- `ARPE`, auto-reload buffering (R26). -/
  arpe : Bool
  /-- `CKD` (R26). -/
  ckd : ClockDivision
  /-- `UIE`, update-interrupt enable (R26). -/
  uie : Bool
  /-- `UIF`, the update flag (R27). -/
  uif : Bool
  /-- `PSC`, the prescaler (R28). -/
  psc : Half
  /-- `ARR`, the auto-reload value software programs (R29). -/
  arr : Half
  /-- `ARR_SH`, the shadow the counter compares against (R29). -/
  arrSh : Half
  /-- `CNT`, the counter (R31). -/
  cnt : Half
  /-- Channels 1 to 4, channel `c` at place `c - 1` (R32). -/
  channels : Vector Channel 4
  /-- The callback slot (R33). -/
  slot : Option Slot
  deriving DecidableEq, Repr

/-! ## ST unit -/

/-- SysTickState (10_state.md R34 to R40). -/
structure SysTick where
  /-- Set by the inits, never cleared (R34). -/
  inited : Bool
  /-- `ENABLE` (R35). -/
  enable : Bool
  /-- `TICKINT` (R35). -/
  tickint : Bool
  /-- `CLKDIV` (R35). -/
  clkDiv : ClkDiv
  /-- `COUNTFLAG` (R36). -/
  countflag : Bool
  /-- `LOAD`, the reload value (R37). -/
  load : Ticks
  /-- `VAL`, the current count (R37). -/
  val : Ticks
  /-- The one callback slot (R39). -/
  slot : Option Slot
  /-- `OVW`, sticky contention bit; no rule reads it (R40). -/
  ovw : Bool
  deriving DecidableEq, Repr

/-! ## US unit -/

/-- A sensor record (10_state.md R41). -/
structure Sensor where
  echoPin : Nibble
  echoPort : Nibble
  trigPin : Nibble
  trigPort : Nibble
  /-- The configured maximum range in cm. -/
  range : Half
  /-- `Timeout(range)` of 44_ultrasonic.md R231, in ticks. -/
  timeout : Nat
  enabled : Bool
  deriving DecidableEq, Repr

/-- `SES.state` (10_state.md R42). -/
inductive SessionState where
  | idle
  | waitingForRisingEdge
  | waitingForFallingEdge
  | done
  deriving DecidableEq, Repr

/-- The one measurement session (10_state.md R42, R43). -/
structure Session where
  state : SessionState
  /-- `SES.distance`, in thousandths of a centimetre. -/
  distance : Nat
  deriving DecidableEq, Repr

/-! ## The foreground sequencer and the sticky fault -/

/-- The continuation of a SysTick delay (10_state.md R21). -/
inductive Continuation where
  | respond
  | usTrigHigh (i : Nat)
  | usTrigLow (i : Nat)
  deriving DecidableEq, Repr

/-- `fg`, the blocking operation in progress (10_state.md R21). -/
inductive Foreground where
  | idle
  | gptWait (n : Fin 4) (target : Half)
  | stDelay (rest : List Ticks) (k : Continuation)
  | usPoll (i : Nat)
  deriving DecidableEq, Repr

/-- The reasons of `Unspecified`, a closed list (60_exceptions.md R276). -/
inductive Reason where
  | notInitialised
  | prescalerRange
  | reloadRange
  | staleUpdateFlag
  | centerAligned
  | zeroReloadCount
  | counterAboveReload
  | remainingUndefined
  | noCallback
  | forcedUpdateWithUie
  | delayRange
  | sysTickContention
  | strayEdge
  deriving DecidableEq, Repr

/-! ## The whole state -/

/-- What the environment presents on a port in one go: words, in order (20_memory.md R60). The words of a whole frame and
nothing more are the frame of 00_scope.md R18; for other words see log 4. -/
structure Presentation where
  port : Port
  words : List Word
  deriving DecidableEq, Repr

/-- The state of TSB. -/
structure State where
  /-- The parameters, fixed before reset (00_scope.md R9, 70_reset_and_hazards.md R302 (d)). -/
  cfg : Config
  /-- The foreground sequencer (10_state.md R21). -/
  fg : Foreground
  /-- The sticky fault (10_state.md R23). -/
  fault : Option Reason
  /-- The output trace, in emission order (10_state.md R24). -/
  out : List Record
  /-- The four timers (10_state.md R25). -/
  timers : Vector Timer 4
  /-- The SysTick singleton (10_state.md R34). -/
  st : SysTick
  /-- The sensor records, one place for each index below `US_CAPACITY` (10_state.md R41). -/
  sensors : List (Option Sensor)
  /-- The measurement session (10_state.md R42). -/
  ses : Session
  /-- `EXTI_EN[l]` (10_state.md R45). -/
  extiEn : Vector Bool 16
  /-- `EXTI_REG[l]` (10_state.md R45). -/
  extiReg : Vector Bool 16
  /-- MODEL's own: the inputs still to come, oldest first (00_scope.md R17, R18; DESIGN CHOICE, log 1, safe). -/
  input : List Presentation
  /-- MODEL's own: how many values `draw` has given (00_scope.md R15; DESIGN CHOICE, log 9, safe). -/
  drawCount : Nat
  deriving DecidableEq, Repr

/-! ## Why a step stops -/

/-- The machine stops with a fault. -/
inductive Fault where
  /-- Raised by every step of a block whose sticky fault is set: no step is enabled, the block is stuck for good
  (00_scope.md R18, 10_state.md R23). Safe: the spec stops here too. -/
  | stuck (r : Reason)
  deriving DecidableEq, Repr

/-- The model has no step. -/
inductive Refusal where
  /-- Raised by `exec`'s arm of an instruction that has no meaning yet (none, in this model). Safe. -/
  | notModelled (mnemonic : String)
  /-- Raised by every step of a machine whose configuration is ill formed: "a model refuses an ill-formed configuration"
  (00_scope.md R9; log 6). Safe: the spec gives such a machine no behaviour. -/
  | illFormedConfiguration
  deriving DecidableEq, Repr

/-! ## Reset -/

/-- A channel after reset (10_state.md R47). -/
def Channel.reset : Channel := { ccr := 0, ocm := .off, cce := false, ccp := false }

/-- A timer after reset (10_state.md R47). -/
def Timer.reset : Timer where
  inited := false
  cen := false
  dir := .up
  arpe := false
  ckd := .ckd0
  uie := false
  uif := false
  psc := 0
  arr := 0
  arrSh := 0
  cnt := 0
  channels := Vector.replicate 4 Channel.reset
  slot := none

/-- SysTick after reset (10_state.md R47). -/
def SysTick.reset : SysTick where
  inited := false
  enable := false
  tickint := false
  clkDiv := .div1
  countflag := false
  load := 0
  val := 0
  slot := none
  ovw := false

/-- The state after reset of a block with the parameters `c` (10_state.md R47, 70_reset_and_hazards.md R300). Nothing is
presented and nothing is drawn yet (the model's own fields, log 1 and log 9). -/
def State.resetWith (c : Config) : State where
  cfg := c
  fg := .idle
  fault := none
  out := []
  timers := Vector.replicate 4 Timer.reset
  st := SysTick.reset
  sensors := List.replicate c.usCapacity none
  ses := { state := .idle, distance := 0 }
  extiEn := Vector.replicate 16 false
  extiReg := Vector.replicate 16 false
  input := []
  drawCount := 0

/-- The state after reset under the reference configuration of 00_scope.md R10 (DESIGN CHOICE, log 7, unsafe: the
parameters are open, and `State.resetWith` takes any). -/
def State.reset : State := State.resetWith Config.reference

end Sys2Proof.Machine
end

