-- ==== Sys2Proof/Machine/Arith.lean ====
section
/-! DEFINITION. The computations of TSB: constants, tick conversions, prescaler, reload, segments, timeout, distance,
compare value, vector. All are exact arithmetic on naturals, narrowed where a rule writes a field (00_scope.md R12). -/

namespace Sys2Proof.Machine

/-! ## Constants (00_scope.md R8, R10) -/

/-- `ST_MAX_RELOAD`, the 24-bit maximum reload (00_scope.md R8). -/
abbrev stMaxReload : Nat := 16777215

/-- `TRIG_SETUP_US` (00_scope.md R8). -/
abbrev trigSetupUs : Nat := 2

/-- `TRIG_HIGH_US` (00_scope.md R8). -/
abbrev trigHighUs : Nat := 10

/-- `OUT_OF_RANGE` (00_scope.md R10). -/
abbrev outOfRange : Word := 0xFFFFFFFF

/-- `DISABLED` (00_scope.md R10). -/
abbrev disabledValue : Word := 0xFFFFFFFE

/-- `NULL_CB` (00_scope.md R10). -/
abbrev nullCb : Word := 0

/-! ## The configuration -/

/-- The configuration is well formed: `F_AHB mod 8 000 000 = 0` and `F_PCLK ≥ 1` (00_scope.md R9). -/
def wellFormedConfig (c : Config) : Bool := c.fAhb % 8000000 == 0 && decide (1 ≤ c.fPclk)

/-- The divider as a number (10_state.md R35). -/
def divider : ClkDiv → Nat
  | .div1 => 1
  | .div8 => 8

/-- `TICKS_PER_US(div)` (00_scope.md R11). -/
def ticksPerUs (c : Config) (d : ClkDiv) : Nat := c.fAhb / (1000000 * divider d)

/-- `TICKS_PER_MS(div)` (00_scope.md R11). -/
def ticksPerMs (c : Config) (d : ClkDiv) : Nat := c.fAhb / (1000 * divider d)

/-- `UsToTicks(us)` (43_systick.md R191). -/
def usToTicks (c : Config) (d : ClkDiv) (us : Word) : Nat := us.toNat * ticksPerUs c d

/-- `MsToTicks(ms)` (43_systick.md R191). -/
def msToTicks (c : Config) (d : ClkDiv) (ms : Word) : Nat := ms.toNat * ticksPerMs c d

/-! ## GPT -/

/-- GPT_INIT's time unit (30_encoding.md R84). -/
inductive TimeUnit where
  | milliseconds
  | seconds
  deriving DecidableEq, Repr

/-- `PSC_DIV_MS` and `PSC_DIV_S` (00_scope.md R8). -/
def prescalerDivisor : TimeUnit → Nat
  | .milliseconds => 1000000
  | .seconds => 1000

/-- `Psc(unit)`, `none` where the rule leaves it undefined (40_gpt_config.md R111). -/
def prescaler (c : Config) (u : TimeUnit) : Option Half :=
  let q := c.fPclk / prescalerDivisor u
  if q = 0 ∨ 65535 < q - 1 then none else some (BitVec.ofNat 16 (q - 1))

/-- `Reload(ticks, tickType)`, `none` where the rule leaves it undefined (41_gpt_interval.md R140). -/
def reloadOf (ticks : Word) (tickType : Half) : Option Half :=
  let p := ticks.toNat * tickType.toNat
  if p = 0 ∨ 65535 < p then none else some (BitVec.ofNat 16 p)

/-- The compare value `(ARR × pct) div 100` (42_gpt_pwm.md R171). -/
def compareValue (arr : Half) (pct : Nat) : Half := BitVec.ofNat 16 (arr.toNat * pct / 100)

/-! ## SysTick -/

/-- `Segments(T)`, `none` where the rule leaves it undefined; a zero remainder is no segment (43_systick.md R202). -/
def segments (t : Nat) : Option (List Ticks) :=
  if t = 0 ∨ 4294967296 ≤ t then none
  else if t ≤ stMaxReload then some [BitVec.ofNat 24 t]
  else
    let full := List.replicate (t / stMaxReload) (BitVec.ofNat 24 stMaxReload)
    if t % stMaxReload = 0 then some full else some (BitVec.ofNat 24 (t % stMaxReload) :: full)

/-- The reload of a SysTick interval of `t` ticks, `none` outside 1 to `ST_MAX_RELOAD` (43_systick.md R208). -/
def intervalTicks (t : Nat) : Option Ticks :=
  if t = 0 ∨ stMaxReload < t then none else some (BitVec.ofNat 24 t)

/-! ## Ultrasonic -/

/-- `Timeout(cm)` (44_ultrasonic.md R231). -/
def timeoutTicks (cm : Half) : Nat := cm.toNat * 58842 / 1000 + 1

/-- `Distance(e)`, in thousandths of a centimetre (44_ultrasonic.md R232). -/
def distanceOf (e : Nat) : Nat := 17 * e

/-- `Vector(pin)` (44_ultrasonic.md R233). -/
def irqVector (pin : Nibble) : IrqVector :=
  match pin.toNat with
  | 0 => .exti0
  | 1 => .exti1
  | 2 => .exti2
  | 3 => .exti3
  | 4 => .exti4
  | 5 => .exti9_5
  | 6 => .exti9_5
  | 7 => .exti9_5
  | 8 => .exti9_5
  | 9 => .exti9_5
  | _ => .exti15_10

/-! ## Responses -/

/-- The status code of a response (30_encoding.md R92). -/
def statusCode : Status → Word
  | .ok => 0
  | .failParam => 1
  | .failConfig => 2
  | .illegal => 3

/-- The two words of a response frame (30_encoding.md R92). -/
def responseFrame (status : Status) (value : Word) : List Word := [statusCode status, value]

end Sys2Proof.Machine
end

