-- ==== Sys2Proof/Machine/Flags.lean ====
section
/-! DEFINITION. The status flags and the views the spec derives from stored state (10_state.md R27, R33, R39, R44, R46;
43_systick.md R211). TSB has no arithmetic condition codes (10_state.md R46). -/

namespace Sys2Proof.Machine

/-- `StArmed`: `TICKINT = 1` and the slot is filled (10_state.md R39). -/
def stArmed (st : SysTick) : Bool := st.tickint && st.slot.isSome

/-- `ST.OVW` after an arming: set where `StArmed` already holds, else as it was (10_state.md R40, 43_systick.md R214). -/
def overwriteFlag (st : SysTick) : Bool := st.ovw || stArmed st

/-- `elapsed = ST.LOAD − ST.VAL` (43_systick.md R211). Where `VAL > LOAD`, which no run reaches, it is 0 (DESIGN CHOICE,
log 12, safe). -/
def elapsed (st : SysTick) : Nat := st.load.toNat - st.val.toNat

/-- The update interrupt would be enabled on a timer whose update flag stands (10_state.md R27, 60_exceptions.md R278). -/
def staleUpdateFlag (uie : Bool) (t : Timer) : Bool := uie && t.uif

/-- The dispatch states of a timer (10_state.md R33, 41_gpt_interval.md R149). -/
inductive Dispatch where
  | idle
  | armedSingle
  | armedPeriodic
  deriving DecidableEq, Repr

/-- The derived dispatch state of a timer (10_state.md R33). -/
def dispatchState (t : Timer) : Dispatch :=
  match t.slot with
  | none => .idle
  | some ⟨.singleShot, _⟩ => if t.cen && t.uie then .armedSingle else .idle
  | some ⟨.periodic, _⟩ => if t.cen && t.uie then .armedPeriodic else .idle

/-- `readingState = done` (10_state.md R44). -/
def readingDone (ses : Session) : Bool := ses.state == .done

/-- `echoEdgeFlag = rising-detected` (10_state.md R44). -/
def risingDetected (ses : Session) : Bool := ses.state == .waitingForFallingEdge || ses.state == .done

end Sys2Proof.Machine
end

