-- ==== Sys2Proof/Machine/Operands.lean ====
section
/-! DEFINITION. The operand forms: what each selector value stands for, `none` where the spec makes it an invalid
parameter or configuration (30_encoding.md R84 to R88, 60_exceptions.md R271, R272). -/

namespace Sys2Proof.Machine

/-- The timer a GPT frame's `sel` names: ordinals 0 to 3 (20_memory.md R61, 40_gpt_config.md R110). -/
def timerIndex? (sel : Byte) : Option (Fin 4) :=
  if h : sel.toNat < 4 then some ⟨sel.toNat, h⟩ else none

/-- The channel a number names: 1 to 4, held at places 0 to 3 (30_encoding.md R85, R86; 10_state.md R32). -/
def channelIndex? (c : Nat) : Option (Fin 4) :=
  if h : 1 ≤ c ∧ c ≤ 4 then some ⟨c - 1, by omega⟩ else none

/-- GPT_INIT's `unit` code (30_encoding.md R84). -/
def timeUnit? (u : BitVec 2) : Option TimeUnit :=
  match u.toNat with
  | 0 => some .milliseconds
  | 1 => some .seconds
  | _ => none

/-- A count-direction code: 0 `Up`, 1 `Down`, 2 `Center` (30_encoding.md R84, R88). -/
def countDir? (d : Nat) : Option CountDir :=
  match d with
  | 0 => some .up
  | 1 => some .down
  | 2 => some .center
  | _ => none

/-- GPT_INIT's `ckd` code (30_encoding.md R84). -/
def clockDivision? (c : BitVec 2) : Option ClockDivision :=
  match c.toNat with
  | 0 => some .ckd0
  | 1 => some .ckd1
  | 2 => some .ckd2
  | _ => none

/-- An off/on selector compared as a whole 16-bit value (30_encoding.md R88). -/
def onOff? (v : Half) : Option Bool :=
  match v.toNat with
  | 0 => some false
  | 1 => some true
  | _ => none

/-- The clock-source code: 0 divider 1, 1 divider 8 (30_encoding.md R88). -/
def clockSource? (v : Half) : Option ClkDiv :=
  match v.toNat with
  | 0 => some .div1
  | 1 => some .div8
  | _ => none

/-- The PWM mode code (30_encoding.md R85). -/
def pwmMode? (m : Byte) : Option CompareMode :=
  match m.toNat with
  | 0 => some .pwmA
  | 1 => some .pwmB
  | _ => none

/-- A percentage: 0 to 100, validated and never clamped (42_gpt_pwm.md R171). -/
def percent? (p : Byte) : Option Nat := if p.toNat ≤ 100 then some p.toNat else none

/-- `tickType` is a member of `TICKTYPE_SET` (30_encoding.md R88). -/
def tickTypeOk (c : Config) (tickType : Half) : Bool := decide (tickType ∈ c.tickTypes)

/-- A callback handle other than `NULL_CB` (41_gpt_interval.md R147). -/
def handleOk (cb : Word) : Bool := cb != nullCb

/-- A SysTick reload operand: at most `ST_MAX_RELOAD` (43_systick.md R193, R194). -/
def stReload? (v : Word) : Option Ticks := if v.toNat ≤ stMaxReload then some (BitVec.ofNat 24 v.toNat) else none

/-- The two parameter checks both of which give the same answer, the first that fails deciding (30_encoding.md R91 (4)). -/
def both? {α β : Type} (a : Option α) (b : Option β) : Option (α × β) :=
  match a, b with
  | some x, some y => some (x, y)
  | some _, none => none
  | none, _ => none

/-- A check that yields nothing but that it holds. -/
def check? (ok : Bool) : Option Unit := if ok then some () else none

end Sys2Proof.Machine
end

