-- ==== Sys2Proof/Machine/Ops.lean ====
section
/-! DEFINITION. The shared operations: outcomes and records (00_scope.md R14, R15), the gate every frame passes (R18),
access to timers, channels, SysTick, sensors and EXTI mirrors, the procedures WriteARR, StProgram, StStartElapsed and
StDelay, and the interrupt handlers. The meanings are compositions of these. -/

namespace Sys2Proof.Machine

/-- What a step answers. -/
abbrev Result := Host.Outcome State Fault Refusal

/-! ## Records and outcomes (00_scope.md R14, R15) -/

/-- `emit R`: append a record to the trace (00_scope.md R15). -/
def emit (r : Record) (s : State) : State := { s with out := s.out ++ [r] }

/-- `emit CALL(...)` (30_encoding.md R96). -/
def emitCall (c : Call) (s : State) : State := emit (.call c) s

/-- `respond(status, value)` (00_scope.md R14, 30_encoding.md R92). -/
def respond (status : Status) (value : Word) (s : State) : State := emit (.response status value) s

/-- `respond(OK, 0)`. -/
def respondOk (s : State) : State := respond .ok 0 s

/-- `fail(FAIL_PARAM)` (00_scope.md R14, 60_exceptions.md R271). -/
def failParam (s : State) : State := respond .failParam 0 s

/-- `fail(FAIL_CONFIG)` (00_scope.md R14, 60_exceptions.md R272). -/
def failConfig (s : State) : State := respond .failConfig 0 s

/-- `raise Unspecified(reason)`, TSB's one synchronous exception: the sticky fault takes the reason if it holds none, and
nothing is emitted (00_scope.md R14, 60_exceptions.md R276). It ends the step: every use stands where nothing follows but
`fgCheck`, which does nothing once the fault is set. There is no return from it (10_state.md R23). -/
def raise (r : Reason) (s : State) : State :=
  match s.fault with
  | none => { s with fault := some r }
  | some _ => s

/-! ## The gate (00_scope.md R9, R18) -/

/-- A step of the block: refused under an ill-formed configuration (00_scope.md R9), not enabled once the fault is set
(R18), else one atomic transition. -/
def event (f : State → State) (s : State) : Result :=
  if wellFormedConfig s.cfg then
    match s.fault with
    | some r => .fault (.stuck r)
    | none => .next (f s)
  else .refused .illFormedConfiguration

/-- A command frame is accepted only when `fg = Idle`; otherwise the port does not take it, with no response and no state
change (10_state.md R21, 92_eei_decisions.md D48). -/
def command (f : State → State) (s : State) : Result :=
  event (fun s => if s.fg = .idle then f s else s) s

/-! ## Timers and channels -/

/-- `T[n]` (00_scope.md R13). -/
def timerAt (n : Fin 4) (s : State) : Timer := s.timers[n]

/-- Write fields of `T[n]`; no other timer is touched (10_state.md R25). -/
def modifyTimer (n : Fin 4) (f : Timer → Timer) (s : State) : State :=
  { s with timers := s.timers.set n (f (timerAt n s)) }

/-- Procedure `WriteARR` on one timer (10_state.md R30). -/
def writeArr (v : Half) (t : Timer) : Timer := { t with arr := v, arrSh := if t.arpe then t.arrSh else v }

/-- Write fields of one channel of a timer; the other channels are untouched (10_state.md R32). -/
def modifyChannel (c : Fin 4) (f : Channel → Channel) (t : Timer) : Timer :=
  { t with channels := t.channels.set c (f t.channels[c]) }

/-! ## SysTick -/

/-- Write fields of the ST unit. -/
def modifySt (f : SysTick → SysTick) (s : State) : State := { s with st := f s.st }

/-- Procedure `StProgram(N)` (10_state.md R38). -/
def stProgram (n : Ticks) (st : SysTick) : SysTick := { st with load := n, val := n, countflag := false }

/-- The deferred init: divider written, counter stopped, registers zeroed (43_systick.md R192). -/
def stInitWith (d : ClkDiv) (reload : Ticks) (st : SysTick) : SysTick :=
  { st with clkDiv := d, enable := false, tickint := false, countflag := false, load := reload, val := reload,
            inited := true }

/-- Arm the interval engine (43_systick.md R208). -/
def stArm (mode : IntervalMode) (cb : Word) (t : Ticks) (st : SysTick) : SysTick :=
  { stProgram t { st with ovw := overwriteFlag st, slot := some ⟨mode, cb⟩ } with tickint := true, enable := true }

/-- Procedure `StStartElapsed()` (43_systick.md R210). -/
def stStartElapsed (st : SysTick) : SysTick := { stProgram (BitVec.ofNat 24 stMaxReload) st with enable := true }

/-- Procedure `StDelay(T, then)` up to its `FgCheck()`, which the caller runs: an undefined `Segments(T)` raises
`DelayRange` (43_systick.md R202, R203). -/
def startDelay (t : Nat) (k : Continuation) (s : State) : State :=
  match segments t with
  | some (n :: rest) =>
    { modifySt (fun st => { stProgram n st with enable := true }) s with fg := .stDelay rest k }
  | some [] => raise .delayRange s
  | none => raise .delayRange s

/-! ## Sensors, session and EXTI mirrors -/

/-- `US.sensor[i]` (10_state.md R41). -/
def sensorAt (i : Nat) (s : State) : Option Sensor := s.sensors[i]?.join

/-- Write `US.sensor[i]` (10_state.md R41). -/
def setSensor (i : Nat) (r : Sensor) (s : State) : State := { s with sensors := s.sensors.set i (some r) }

/-- `EXTI_EN[l] <- b` (10_state.md R45). -/
def setExtiEn (l : Nibble) (b : Bool) (s : State) : State :=
  { s with extiEn := s.extiEn.set l.toNat b l.isLt }

/-- `EXTI_REG[l] <- 1` (10_state.md R45). -/
def setExtiReg (l : Nibble) (s : State) : State :=
  { s with extiReg := s.extiReg.set l.toNat true l.isLt }

/-! ## Interrupts

A handler is entered at once, inside the step that raises its source; entry saves nothing and changes no mode, and return
restores nothing: the step goes on (60_exceptions.md R282, R283). -/

/-- Procedure `GptHandler(n)`, the update interrupt of timer `n` (41_gpt_interval.md R144). -/
def gptHandler (n : Fin 4) (s : State) : State :=
  match (timerAt n s).slot with
  | none => raise .noCallback s
  | some ⟨mode, cb⟩ =>
    let s := match mode with
      | .singleShot => modifyTimer n (fun t => writeArr 0 { t with uie := false, cen := false }) s
      | .periodic => s
    modifyTimer n (fun t => { t with uif := false }) (emit (.callback .gpt n.val cb) s)

/-- The shadow reload of timer `n` is held at an update event: in no case but that of a busy-wait on `n` whose target lies
above it, and there as a free value says (70_reset_and_hazards.md R316, R319; log 22). -/
def shadowHeld (n : Fin 4) (s : State) : Bool :=
  match s.fg with
  | .idle => false
  | .gptWait m target => if m = n ∧ (timerAt n s).arrSh < target then Config.waitHoldsShadow else false
  | .stDelay _ _ => false
  | .usPoll _ => false

/-- Procedure `UpdateEvent(n)` (41_gpt_interval.md R143). The shadow takes `ARR`, unless it is held (log 22). -/
def updateEvent (n : Fin 4) (s : State) : State :=
  let held := shadowHeld n s
  let s := modifyTimer n (fun t => { t with uif := true, arrSh := if held then t.arrSh else t.arr }) s
  if (timerAt n s).uie then gptHandler n s else s

/-- Procedure `StHandler()`, the SysTick interrupt (43_systick.md R201). -/
def stHandler (s : State) : State :=
  match s.st.slot with
  | none => raise .noCallback s
  | some ⟨mode, cb⟩ =>
    let s := match mode with
      | .singleShot => modifySt (fun st => { st with tickint := false, enable := false, load := 0, val := 0 }) s
      | .periodic => s
    modifySt (fun st => { st with countflag := false }) (emit (.callback .st 0 cb) s)

/-- The foreground is the polling loop that owns the elapsed count (44_ultrasonic.md R240). -/
def polling : Foreground → Bool
  | .idle => false
  | .gptWait _ _ => false
  | .stDelay _ _ => false
  | .usPoll _ => true

/-- Procedure `EdgeHandler()`, the EXTI edge interrupt; the session's state and distance are written together
(44_ultrasonic.md R240, 20_memory.md R70). -/
def edgeHandler (s : State) : State :=
  match s.ses.state with
  | .idle => raise .strayEdge s
  | .waitingForRisingEdge =>
    if polling s.fg then
      { modifySt stStartElapsed s with ses := { s.ses with state := .waitingForFallingEdge } }
    else raise .sysTickContention s
  | .waitingForFallingEdge =>
    { modifySt (fun st => { st with enable := false }) s with
        ses := { state := .done, distance := distanceOf (elapsed s.st) } }
  | .done => s

end Sys2Proof.Machine
end

