-- ==== Sys2Proof/Machine/GptConfig.lean ====
section
/-! DEFINITION. The GPT configuration operations (40_gpt_config.md R110 to R121). -/

namespace Sys2Proof.Machine

/-- The checks of every GPT operation but GPT_INIT, in order: the ordinal, the operation's own parameters, `inited`
(40_gpt_config.md R110 `GptCheck`, 30_encoding.md R91). -/
def gptChecked {α : Type} (t : Byte) (param : Option α) (body : Fin 4 → α → State → State) (s : State) : State :=
  match timerIndex? t with
  | none => failParam s
  | some n =>
    match param with
    | none => failParam s
    | some a => if (timerAt n s).inited then body n a s else raise .notInitialised s

/-- GPT_INIT after its parameter and configuration checks: the Unspecified conditions and the effects (R112). -/
def gptInitBody (n : Fin 4) (arr : Half) (u : TimeUnit) (d : CountDir) (k : ClockDivision) (arpe uie : Bool)
    (s : State) : State :=
  match prescaler s.cfg u with
  | none => raise .prescalerRange s
  | some psc =>
    if staleUpdateFlag uie (timerAt n s) then raise .staleUpdateFlag s
    else
      respondOk (modifyTimer n (fun t =>
        { writeArr arr { t with psc := psc } with arpe := arpe, dir := d, ckd := k, uie := uie, inited := true }) s)

/-- GPT_INIT (R112). -/
def execGptInit (t : Byte) (arr : Half) (unit dir : BitVec 2) (arpe uie : Bool) (ckd : BitVec 2) (s : State) : Result :=
  command (fun s =>
    match timerIndex? t, both? (countDir? dir.toNat) (clockDivision? ckd), timeUnit? unit with
    | none, _, _ => failParam s
    | some _, none, _ => failParam s
    | some _, some _, none => failConfig s
    | some n, some (d, k), some u => gptInitBody n arr u d k arpe uie s) s

/-- GPT_ENABLE (R113). -/
def execGptEnable (t : Byte) (s : State) : Result :=
  command (gptChecked t (some ()) fun n _ s => respondOk (modifyTimer n (fun t => { t with cen := true }) s)) s

/-- GPT_DISABLE (R114). -/
def execGptDisable (t : Byte) (s : State) : Result :=
  command (gptChecked t (some ()) fun n _ s => respondOk (modifyTimer n (fun t => { t with cen := false }) s)) s

/-- GPT_SET_PRESCALER (R115). -/
def execGptSetPrescaler (t : Byte) (psc : Half) (s : State) : Result :=
  command (gptChecked t (some ()) fun n _ s => respondOk (modifyTimer n (fun t => { t with psc := psc }) s)) s

/-- GPT_SET_PERIOD (R116). -/
def execGptSetPeriod (t : Byte) (arr : Half) (s : State) : Result :=
  command (gptChecked t (some ()) fun n _ s => respondOk (modifyTimer n (writeArr arr) s)) s

/-- GPT_SET_COUNT_DIRECTION (R117). -/
def execGptSetCountDirection (t : Byte) (dir : Half) (s : State) : Result :=
  command (gptChecked t (countDir? dir.toNat) fun n d s =>
    respondOk (modifyTimer n (fun t => { t with dir := d }) s)) s

/-- GPT_SET_ARR_BUFFER (R118). -/
def execGptSetArrBuffer (t : Byte) (on : Half) (s : State) : Result :=
  command (gptChecked t (onOff? on) fun n b s => respondOk (modifyTimer n (fun t => { t with arpe := b }) s)) s

/-- GPT_SET_INTERRUPT (R119). -/
def execGptSetInterrupt (t : Byte) (on : Half) (s : State) : Result :=
  command (gptChecked t (onOff? on) fun n b s =>
    if staleUpdateFlag b (timerAt n s) then raise .staleUpdateFlag s
    else respondOk (modifyTimer n (fun t => { t with uie := b }) s)) s

/-- The result of GPT_GET_REMAINING_TIME, in ticks (R120). -/
def remainingTime (t : Timer) (s : State) : State :=
  match t.dir with
  | .up => if t.cnt ≤ t.arr then respond .ok ((t.arr - t.cnt).setWidth 32) s else raise .remainingUndefined s
  | .down => respond .ok (t.cnt.setWidth 32) s
  | .center => raise .centerAligned s

/-- GPT_GET_REMAINING_TIME (R120). -/
def execGptGetRemainingTime (t : Byte) (s : State) : Result :=
  command (gptChecked t (some ()) fun n _ s => remainingTime (timerAt n s) s) s

/-- GPT_GET_COUNTER_VALUE (R121). -/
def execGptGetCounterValue (t : Byte) (s : State) : Result :=
  command (gptChecked t (some ()) fun n _ s => respond .ok ((timerAt n s).cnt.setWidth 32) s) s

end Sys2Proof.Machine
end

