-- ==== Sys2Proof/Machine/Foreground.lean ====
section
/-! DEFINITION. The foreground sequencer: procedure `FgCheck()` and the completions it runs (10_state.md R22). -/

namespace Sys2Proof.Machine

/-- Busy-wait completion (41_gpt_interval.md R146). -/
def busyWaitDone (n : Fin 4) (s : State) : State :=
  respondOk { modifyTimer n (fun t => writeArr 0 { t with cen := false, cnt := 0 }) s with fg := .idle }

/-- The high trigger phase of sensor `i` (44_ultrasonic.md R237). A sensor that is `none`, which no run reaches here,
raises NotInitialised (log 11). -/
def trigHighPhase (i : Nat) (s : State) : State :=
  match sensorAt i s with
  | none => raise .notInitialised s
  | some r =>
    startDelay (trigHighUs * ticksPerUs s.cfg s.st.clkDiv) (.usTrigLow i)
      (emitCall (.gpioSetPinValue r.trigPort r.trigPin .high) s)

/-- The low trigger phase of sensor `i` (44_ultrasonic.md R237; log 11 as above). -/
def trigLowPhase (i : Nat) (s : State) : State :=
  match sensorAt i s with
  | none => raise .notInitialised s
  | some r =>
    { modifySt stStartElapsed (emitCall (.gpioSetPinValue r.trigPort r.trigPin .low) s) with fg := .usPoll i }

/-- Delay-segment completion: the next segment, or "stop, reset" and the continuation (43_systick.md R204). -/
def delaySegmentDone (rest : List Ticks) (k : Continuation) (s : State) : State :=
  match rest with
  | n :: rest' => { modifySt (stProgram n) s with fg := .stDelay rest' k }
  | [] =>
    let s := { modifySt (fun st => { stProgram 0 st with enable := false }) s with fg := .idle }
    match k with
    | .respond => respondOk s
    | .usTrigHigh i => trigHighPhase i s
    | .usTrigLow i => trigLowPhase i s

/-- The poll check of a distance read, `none` while it keeps polling: `Done` first, then the timeout, strictly exceeded
(44_ultrasonic.md R238; log 11 for a sensor that is `none`). -/
def pollCheck (i : Nat) (s : State) : Option State :=
  match sensorAt i s with
  | none => some (raise .notInitialised s)
  | some r =>
    if s.ses.state = .done then
      some (respond .ok (BitVec.ofNat 32 s.ses.distance) { s with fg := .idle })
    else if r.timeout < elapsed s.st then
      let s := setExtiEn r.echoPin false (emitCall (.extiDisableLine r.echoPin) s)
      let s := modifySt (fun st => { st with enable := false }) s
      some (respond .ok outOfRange { s with ses := { s.ses with state := .idle }, fg := .idle })
    else none

/-- One round of `FgCheck()`, `none` where no arm applies or the poll changes nothing (10_state.md R22). A raised fault
has ended the step (00_scope.md R14). -/
def fgArm (s : State) : Option State :=
  match s.fault with
  | some _ => none
  | none =>
    match s.fg with
    | .idle => none
    | .gptWait n target => if (timerAt n s).cnt = target then some (busyWaitDone n s) else none
    | .stDelay rest k => if s.st.countflag then some (delaySegmentDone rest k s) else none
    | .usPoll i => pollCheck i s

/-- At most `k` rounds. -/
def fgLoop : Nat → State → State
  | 0, s => s
  | k + 1, s =>
    match fgArm s with
    | none => s
    | some s' => fgLoop k s'

/-- Procedure `FgCheck()`: rounds until no arm applies (10_state.md R22). Two rounds always suffice (DEDUCED, log 13,
safe: Laws/Ops.lean proves `fgArm (fgCheck s) = none`). -/
def fgCheck (s : State) : State := fgLoop 2 s

end Sys2Proof.Machine
end

