-- ==== Sys2Proof/Machine/GptInterval.lean ====
section
/-! DEFINITION. The GPT counter, the busy-wait and the intervals (41_gpt_interval.md R141 to R148). -/

namespace Sys2Proof.Machine

/-- One tick of timer `n`, up to its `FgCheck()` (R141). -/
def gptCount (n : Fin 4) (s : State) : State :=
  let t := timerAt n s
  if t.cen then
    match t.dir with
    | .center => raise .centerAligned s
    | .up =>
      if t.arrSh = 0 then raise .zeroReloadCount s
      else if t.arrSh < t.cnt then raise .counterAboveReload s
      else if t.cnt = t.arrSh then updateEvent n (modifyTimer n (fun t => { t with cnt := 0 }) s)
      else modifyTimer n (fun t => { t with cnt := t.cnt + 1 }) s
    | .down =>
      if t.arrSh = 0 then raise .zeroReloadCount s
      else if t.cnt = 0 then updateEvent n (modifyTimer n (fun t => { t with cnt := t.arrSh }) s)
      else modifyTimer n (fun t => { t with cnt := t.cnt - 1 }) s
  else s

/-- The event GPT_TICK (R141). A timer ordinal above 3 is no event: nothing changes and `FgCheck()` is not called
(30_encoding.md R90; log 17). -/
def execGptTick (t : Byte) (s : State) : Result :=
  event (fun s =>
    match timerIndex? t with
    | none => s
    | some n => fgCheck (gptCount n s)) s

/-- GPT_BUSY_WAIT, a blocking operation: its issue step (R145). Whether a buffered wait whose target lies above
the old shadow ever ends is left open: `shadowHeld`, log 22. -/
def execGptBusyWait (t : Byte) (tickType : Half) (ticks : Word) (s : State) : Result :=
  command (fun s => gptChecked t (check? (tickTypeOk s.cfg tickType)) (fun n _ s =>
    match reloadOf ticks tickType with
    | none => raise .reloadRange s
    | some p =>
      let s := modifyTimer n (fun t => { writeArr p t with uie := false, cen := true }) s
      fgCheck { s with fg := .gptWait n (p - 1) }) s) s

/-- The arming sequence: timer stopped, reload cleared and programmed, slot stored, interrupt and counter started
(R147). -/
def armTimer (p : Half) (mode : IntervalMode) (cb : Word) (t : Timer) : Timer :=
  let t := writeArr p (writeArr 0 { t with cen := false })
  { t with slot := some ⟨mode, cb⟩, uie := true, cen := true }

/-- The checks and effects the two interval operations share (R147, R148). -/
def armInterval (mode : IntervalMode) (t : Byte) (tickType : Half) (ticks cb : Word) (s : State) : State :=
  gptChecked t (both? (check? (tickTypeOk s.cfg tickType)) (check? (handleOk cb))) (fun n _ s =>
    match reloadOf ticks tickType with
    | none => raise .reloadRange s
    | some p =>
      if staleUpdateFlag true (timerAt n s) then raise .staleUpdateFlag s
      else respondOk (modifyTimer n (armTimer p mode cb) s)) s

/-- GPT_SET_INTERVAL_SINGLE (R147). -/
def execGptSetIntervalSingle (t : Byte) (tickType : Half) (ticks cb : Word) (s : State) : Result :=
  command (armInterval .singleShot t tickType ticks cb) s

/-- GPT_SET_INTERVAL_PERIODIC (R148). -/
def execGptSetIntervalPeriodic (t : Byte) (tickType : Half) (ticks cb : Word) (s : State) : Result :=
  command (armInterval .periodic t tickType ticks cb) s

end Sys2Proof.Machine
end

