-- ==== Sys2Proof/Machine/GptPwm.lean ====
section
/-! DEFINITION. The PWM operations (42_gpt_pwm.md R170 to R172). -/

namespace Sys2Proof.Machine

/-- The effects of GPT_PWM_INIT on its timer; `psc`, `cce` and `ccp` are the three drawn values (R170). -/
def pwmInitTimer (arr : Half) (ch : Fin 4) (m : CompareMode) (psc : Half) (cce ccp : Bool) (t : Timer) : Timer :=
  let t := modifyChannel ch (fun c => { c with ocm := m }) (writeArr arr t)
  let t := { t with arpe := true, cen := true }
  let t := { t with arrSh := t.arr, cnt := 0 }
  modifyChannel ch (fun c => { c with cce := cce, ccp := ccp }) { t with psc := psc }

/-- GPT_PWM_INIT (R170). `PSC`, `CCE[ch]` and `CCP[ch]` become free values (log 9); `freq` is read by no rule. -/
def execGptPwmInit (t : Byte) (arr : Half) (channel mode : Byte) (_freq : Word) (s : State) : Result :=
  command (gptChecked t (both? (channelIndex? channel.toNat) (pwmMode? mode)) fun n p s =>
    if (timerAt n s).uie then raise .forcedUpdateWithUie s
    else
      let k := s.drawCount
      let s := modifyTimer n
        (pwmInitTimer arr p.1 p.2 (Config.drawHalf k) (Config.drawBit (k + 1)) (Config.drawBit (k + 2))) s
      respondOk { s with drawCount := k + 3 }) s

/-- GPT_SET_DUTY_CYCLE (R171). -/
def execGptSetDutyCycle (t channel percent : Byte) (s : State) : Result :=
  command (gptChecked t (both? (channelIndex? channel.toNat) (percent? percent)) fun n p s =>
    respondOk (modifyTimer n
      (fun t => modifyChannel p.1 (fun c => { c with ccr := compareValue t.arr p.2 }) t) s)) s

/-- GPT_PWM_DEINIT (R172). -/
def execGptPwmDeinit (t : Byte) (channel : Half) (s : State) : Result :=
  command (gptChecked t (channelIndex? channel.toNat) fun n ch s =>
    respondOk (modifyTimer n (modifyChannel ch fun c => { c with ocm := .off, cce := false, ccp := false }) s)) s

end Sys2Proof.Machine
end

