-- ==== Sys2Proof/Machine/SysTickOps.lean ====
section
/-! DEFINITION. The SysTick operations and the tick event (43_systick.md R190 to R209). -/

namespace Sys2Proof.Machine

/-- The checks of every ST operation but the inits, in order: the operation's own parameters, `inited` (R190 `StCheck`;
the reserved fields are the decoder's). -/
def stChecked {α : Type} (param : Option α) (body : α → State → State) (s : State) : State :=
  match param with
  | none => failParam s
  | some a => if s.st.inited then body a s else raise .notInitialised s

/-- One tick of SysTick, up to its `FgCheck()` (R200). -/
def stCount (s : State) : State :=
  if s.st.enable then
    if s.st.val = 0 then modifySt (fun st => { st with val := st.load }) s
    else
      let s := modifySt (fun st => { st with val := st.val - 1 }) s
      if s.st.val = 0 then
        let s := modifySt (fun st => { st with countflag := true }) s
        if s.st.tickint then stHandler s else s
      else s
  else s

/-- The event ST_TICK (R200). -/
def execStTick (s : State) : Result :=
  event (fun s => fgCheck (stCount s)) s

/-- ST_INIT, the deferred init (R192). -/
def execStInit (clk : Half) (s : State) : Result :=
  command (fun s =>
    match clockSource? clk with
    | none => failConfig s
    | some d => respondOk (modifySt (stInitWith d 0) s)) s

/-- ST_INIT_RELOAD (R193). -/
def execStInitReload (clk : Half) (reload : Word) (s : State) : Result :=
  command (fun s =>
    match stReload? reload, clockSource? clk with
    | none, _ => failParam s
    | some _, none => failConfig s
    | some n, some d => respondOk (modifySt (stInitWith d n) s)) s

/-- ST_SET_RELOAD (R194). -/
def execStSetReload (reload : Word) (s : State) : Result :=
  command (stChecked (stReload? reload) fun n s => respondOk (modifySt (stProgram n) s)) s

/-- ST_START (R195). -/
def execStStart (s : State) : Result :=
  command (stChecked (some ()) fun _ s => respondOk (modifySt (fun st => { st with enable := true }) s)) s

/-- ST_STOP (R196). -/
def execStStop (s : State) : Result :=
  command (stChecked (some ()) fun _ s => respondOk (modifySt (fun st => { st with enable := false }) s)) s

/-- ST_RESET (R197). -/
def execStReset (s : State) : Result :=
  command (stChecked (some ()) fun _ s =>
    respondOk (modifySt (fun st => { st with load := 0, val := 0, countflag := false }) s)) s

/-- ST_GET_REMAINING (R198). -/
def execStGetRemaining (s : State) : Result :=
  command (stChecked (some ()) fun _ s => respond .ok (s.st.val.setWidth 32) s) s

/-- ST_GET_ELAPSED (R199). -/
def execStGetElapsed (s : State) : Result :=
  command (stChecked (some ()) fun _ s => respond .ok (BitVec.ofNat 32 (elapsed s.st)) s) s

/-- A blocking delay of `t` ticks: the contention guard, then the delay (R205, R213). -/
def blockingDelay (t : Nat) (s : State) : State :=
  if stArmed s.st then raise .sysTickContention s else fgCheck (startDelay t .respond s)

/-- ST_DELAY_US, a blocking operation: its issue step (R205). -/
def execStDelayUs (us : Word) (s : State) : Result :=
  command (stChecked (some ()) fun _ s => blockingDelay (usToTicks s.cfg s.st.clkDiv us) s) s

/-- ST_DELAY_MS, a blocking operation: its issue step (R206). -/
def execStDelayMs (ms : Word) (s : State) : Result :=
  command (stChecked (some ()) fun _ s => blockingDelay (msToTicks s.cfg s.st.clkDiv ms) s) s

/-- The checks and effects the two interval operations share (R208, R209). -/
def armStInterval (mode : IntervalMode) (us cb : Word) (s : State) : State :=
  stChecked (check? (handleOk cb)) (fun _ s =>
    match intervalTicks (usToTicks s.cfg s.st.clkDiv us) with
    | none => raise .reloadRange s
    | some t => respondOk (modifySt (stArm mode cb t) s)) s

/-- ST_SET_INTERVAL_SINGLE (R208). -/
def execStSetIntervalSingle (us cb : Word) (s : State) : Result :=
  command (armStInterval .singleShot us cb) s

/-- ST_SET_INTERVAL_PERIODIC (R209). -/
def execStSetIntervalPeriodic (us cb : Word) (s : State) : Result :=
  command (armStInterval .periodic us cb) s

end Sys2Proof.Machine
end

