-- ==== Sys2Proof/Machine/Ultrasonic.lean ====
section
/-! DEFINITION. The ultrasonic operations and the edge event (44_ultrasonic.md R230 to R243). -/

namespace Sys2Proof.Machine

/-- The checks of every US operation but US_INIT, in order: the sensor index, the operation's own parameters, the record
(R230; the reserved fields are the decoder's). -/
def usChecked {α : Type} (id : Byte) (param : Option α) (body : Sensor → α → State → State) (s : State) : State :=
  if id.toNat < s.cfg.usCapacity then
    match param with
    | none => failParam s
    | some a =>
      match sensorAt id.toNat s with
      | none => raise .notInitialised s
      | some r => body r a s
  else failParam s

/-- The records US_INIT emits, in order (R234). -/
def usInitCalls (r : Sensor) : List Record :=
  [ .call (.rccEnablePeripheralClock (.gpioPort r.echoPort) .gpioBus),
    .call (.rccEnablePeripheralClock (.gpioPort r.trigPort) .gpioBus),
    .call (.gpioSetPinMode r.echoPort r.echoPin .inputFloating),
    .call (.gpioSetPinMode r.trigPort r.trigPin .outputPushPull),
    .call (.afioSetExtiPortMapping r.echoPin r.echoPort),
    .call (.nvicEnableIrq (irqVector r.echoPin)),
    .call (.extiSetCallback r.echoPin .edgeHandler),
    .call (.extiSetTriggerEdge r.echoPin .both) ]

/-- The effects of US_INIT (R234). -/
def usInitBody (i : Nat) (r : Sensor) (s : State) : State :=
  let s := setSensor i r s
  let s := setExtiReg r.echoPin { s with out := s.out ++ usInitCalls r }
  respondOk (modifySt (stInitWith s.cfg.stDefaultDiv 0) s)

/-- US_INIT (R234). -/
def execUsInit (id : Byte) (range : Half) (echoPin echoPort trigPin trigPort : Nibble) (s : State) : Result :=
  command (fun s =>
    if id.toNat < s.cfg.usCapacity then
      if stArmed s.st then raise .sysTickContention s
      else
        usInitBody id.toNat
          { echoPin := echoPin, echoPort := echoPort, trigPin := trigPin, trigPort := trigPort,
            range := range, timeout := timeoutTicks range, enabled := true } s
    else failParam s) s

/-- The issue step of a distance read on the enabled sensor `i` (R235). -/
def startRead (i : Nat) (r : Sensor) (s : State) : State :=
  let s := { s with ses := { s.ses with state := .waitingForRisingEdge } }
  let s := setExtiEn r.echoPin true (emitCall (.extiEnableLine r.echoPin) s)
  let s := emitCall (.extiSetTriggerEdge r.echoPin .both) s
  let s := emitCall (.gpioSetPinValue r.trigPort r.trigPin .low) s
  fgCheck (startDelay (trigSetupUs * ticksPerUs s.cfg s.st.clkDiv) (.usTrigHigh i) s)

/-- US_READ_DISTANCE, a blocking operation: its issue step (R235). A disabled sensor answers before any other check;
`ST.inited = 0`, which no run reaches here, raises NotInitialised (10_state.md R34; log 14). -/
def execUsReadDistance (id : Byte) (s : State) : Result :=
  command (usChecked id (some ()) fun r _ s =>
    if r.enabled then
      if s.st.inited then
        if stArmed s.st then raise .sysTickContention s else startRead id.toNat r s
      else raise .notInitialised s
    else respond .ok disabledValue s) s

/-- US_SET_RANGE (R242). -/
def execUsSetRange (id : Byte) (cm : Half) (s : State) : Result :=
  command (usChecked id (some ()) fun r _ s =>
    respondOk (setSensor id.toNat { r with range := cm, timeout := timeoutTicks cm } s)) s

/-- US_SET_STATE (R243). -/
def execUsSetState (id : Byte) (state : Half) (s : State) : Result :=
  command (usChecked id (onOff? state) fun r b s => respondOk (setSensor id.toNat { r with enabled := b } s)) s

/-- The delivery of one edge of line `l`, up to its `FgCheck()` (R239). -/
def deliverEdge (l : Fin 16) (s : State) : State :=
  if s.extiEn[l] && s.extiReg[l] then edgeHandler s else s

/-- The event EXTI_EDGE (R239). A line above 15 is no event: nothing changes and `FgCheck()` is not called
(30_encoding.md R90; log 17). -/
def execExtiEdge (line : Byte) (s : State) : Result :=
  event (fun s => if h : line.toNat < 16 then fgCheck (deliverEdge ⟨line.toNat, h⟩ s) else s) s

end Sys2Proof.Machine
end

