-- ==== Sys2Proof/Machine/Dispatch.lean ====
section
/-! DEFINITION. The dispatch: one arm per constructor of Instr, each one call of its meaning. -/

namespace Sys2Proof.Machine

def exec (i : Instr) (s : State) : Host.Outcome State Fault Refusal :=
  match i with
  | .gptInit t arr unit dir arpe uie ckd => Sys2Proof.Machine.execGptInit t arr unit dir arpe uie ckd s
  | .gptEnable t => Sys2Proof.Machine.execGptEnable t s
  | .gptDisable t => Sys2Proof.Machine.execGptDisable t s
  | .gptSetPrescaler t psc => Sys2Proof.Machine.execGptSetPrescaler t psc s
  | .gptSetPeriod t arr => Sys2Proof.Machine.execGptSetPeriod t arr s
  | .gptSetCountDirection t dir => Sys2Proof.Machine.execGptSetCountDirection t dir s
  | .gptSetArrBuffer t on => Sys2Proof.Machine.execGptSetArrBuffer t on s
  | .gptSetInterrupt t on => Sys2Proof.Machine.execGptSetInterrupt t on s
  | .gptBusyWait t tickType ticks => Sys2Proof.Machine.execGptBusyWait t tickType ticks s
  | .gptSetIntervalSingle t tickType ticks cb => Sys2Proof.Machine.execGptSetIntervalSingle t tickType ticks cb s
  | .gptSetIntervalPeriodic t tickType ticks cb => Sys2Proof.Machine.execGptSetIntervalPeriodic t tickType ticks cb s
  | .gptGetRemainingTime t => Sys2Proof.Machine.execGptGetRemainingTime t s
  | .gptGetCounterValue t => Sys2Proof.Machine.execGptGetCounterValue t s
  | .gptPwmInit t arr channel mode freq => Sys2Proof.Machine.execGptPwmInit t arr channel mode freq s
  | .gptSetDutyCycle t channel percent => Sys2Proof.Machine.execGptSetDutyCycle t channel percent s
  | .gptPwmDeinit t channel => Sys2Proof.Machine.execGptPwmDeinit t channel s
  | .stInit clk => Sys2Proof.Machine.execStInit clk s
  | .stInitReload clk reload => Sys2Proof.Machine.execStInitReload clk reload s
  | .stSetReload reload => Sys2Proof.Machine.execStSetReload reload s
  | .stStart => Sys2Proof.Machine.execStStart s
  | .stStop => Sys2Proof.Machine.execStStop s
  | .stReset => Sys2Proof.Machine.execStReset s
  | .stGetRemaining => Sys2Proof.Machine.execStGetRemaining s
  | .stGetElapsed => Sys2Proof.Machine.execStGetElapsed s
  | .stDelayUs us => Sys2Proof.Machine.execStDelayUs us s
  | .stDelayMs ms => Sys2Proof.Machine.execStDelayMs ms s
  | .stSetIntervalSingle us cb => Sys2Proof.Machine.execStSetIntervalSingle us cb s
  | .stSetIntervalPeriodic us cb => Sys2Proof.Machine.execStSetIntervalPeriodic us cb s
  | .usInit id range echoPin echoPort trigPin trigPort => Sys2Proof.Machine.execUsInit id range echoPin echoPort trigPin trigPort s
  | .usReadDistance id => Sys2Proof.Machine.execUsReadDistance id s
  | .usSetRange id cm => Sys2Proof.Machine.execUsSetRange id cm s
  | .usSetState id state => Sys2Proof.Machine.execUsSetState id state s
  | .gptTick t => Sys2Proof.Machine.execGptTick t s
  | .stTick => Sys2Proof.Machine.execStTick s
  | .extiEdge line => Sys2Proof.Machine.execExtiEdge line s

end Sys2Proof.Machine
end

