-- ==== Sys2Proof/Decode.lean ====
section
/-! DEFINITION. The decoder and the encoder of 30_encoding.md. A frame is a list of 32-bit words, the header first; the
decoder reads a frame from the front of the words a port presents and rejects by name. -/

namespace Sys2Proof

/-! ## Fields and lengths -/

/-- `op = w0[31:24]` (R80). -/
def opField (w0 : Word) : Byte := w0.extractLsb' 24 8

/-- `sel = w0[23:16]` (R80). -/
def selField (w0 : Word) : Byte := w0.extractLsb' 16 8

/-- `imm16 = w0[15:0]` (R80). -/
def immField (w0 : Word) : Half := w0.extractLsb' 0 16

/-- The header word of R80. -/
def headerWord (op sel : Byte) (imm : Half) : Word := op ++ sel ++ imm

/-- The format of a command's opcode, `none` for an `op` outside the opcode map (R82, R89). -/
def formatOf (op : Byte) : Option Format :=
  match op with
  | 0x10#8 => some .hw
  | 0x11#8 => some .h
  | 0x12#8 => some .h
  | 0x13#8 => some .h
  | 0x14#8 => some .h
  | 0x15#8 => some .h
  | 0x16#8 => some .h
  | 0x17#8 => some .h
  | 0x18#8 => some .hw
  | 0x19#8 => some .hww
  | 0x1A#8 => some .hww
  | 0x1B#8 => some .h
  | 0x1C#8 => some .h
  | 0x1D#8 => some .hww
  | 0x1E#8 => some .h
  | 0x1F#8 => some .h
  | 0x40#8 => some .h
  | 0x41#8 => some .hw
  | 0x42#8 => some .hw
  | 0x43#8 => some .h
  | 0x44#8 => some .h
  | 0x45#8 => some .h
  | 0x46#8 => some .h
  | 0x47#8 => some .h
  | 0x48#8 => some .hw
  | 0x49#8 => some .hw
  | 0x4A#8 => some .hww
  | 0x4B#8 => some .hww
  | 0x60#8 => some .hw
  | 0x61#8 => some .h
  | 0x62#8 => some .h
  | 0x63#8 => some .h
  | _ => none

/-- The number of words a format has: H 1, HW 2, HWW 3 (R82). -/
def formatWords : Format → Nat
  | .h => 1
  | .hw => 2
  | .hww => 3

/-- The opcodes of the event port (R90). -/
def isEventOp (op : Byte) : Bool := op == 0x80#8 || op == 0x81#8 || op == 0x82#8

/-- The words the frame at the front of a port's words takes. An event is one word (R90); a command has the length its
opcode fixes (R82); a header whose opcode is outside the map is a frame of that one word (DESIGN CHOICE, log 4: the spec
gives such a frame no length). -/
def frameLength (p : Port) (ws : List Word) : Nat :=
  match p, ws with
  | _, [] => 0
  | .event, _ :: _ => 1
  | .command, w0 :: _ =>
    match formatOf (opField w0) with
    | some f => formatWords f
    | none => 1

/-! ## Decoding -/

/-- Why words at a port stand for no instruction. -/
inductive Reject where
  /-- Fewer words than the opcode requires: not a frame, no step happens (20_memory.md R63). -/
  | incomplete
  /-- A command whose `op` is outside the opcode map: answered ILLEGAL (R91 (1), R93). -/
  | illegalOpcode
  /-- A command with a non-zero reserved field: answered ILLEGAL (R91 (2), R93). -/
  | reservedField
  /-- A word on the event port that is no event: ignored (R90). -/
  | notAnEvent
  deriving DecidableEq, Repr

/-- The instruction, where the fields its row marks reserved are zero (R91 (2)). -/
def whenZero (reservedIsZero : Bool) (i : Instr) : Except Reject Instr :=
  if reservedIsZero then .ok i else .error .reservedField

/-- The commands of format H (R89). -/
def decodeH (op sel : Byte) (imm : Half) : Except Reject Instr :=
  match op with
  | 0x11#8 => whenZero (imm == 0) (.gptEnable sel)
  | 0x12#8 => whenZero (imm == 0) (.gptDisable sel)
  | 0x13#8 => .ok (.gptSetPrescaler sel imm)
  | 0x14#8 => .ok (.gptSetPeriod sel imm)
  | 0x15#8 => .ok (.gptSetCountDirection sel imm)
  | 0x16#8 => .ok (.gptSetArrBuffer sel imm)
  | 0x17#8 => .ok (.gptSetInterrupt sel imm)
  | 0x1B#8 => whenZero (imm == 0) (.gptGetRemainingTime sel)
  | 0x1C#8 => whenZero (imm == 0) (.gptGetCounterValue sel)
  | 0x1E#8 => .ok (.gptSetDutyCycle sel (imm.extractLsb' 8 8) (imm.extractLsb' 0 8))
  | 0x1F#8 => .ok (.gptPwmDeinit sel imm)
  | 0x40#8 => whenZero (sel == 0) (.stInit imm)
  | 0x43#8 => whenZero (sel == 0 && imm == 0) .stStart
  | 0x44#8 => whenZero (sel == 0 && imm == 0) .stStop
  | 0x45#8 => whenZero (sel == 0 && imm == 0) .stReset
  | 0x46#8 => whenZero (sel == 0 && imm == 0) .stGetRemaining
  | 0x47#8 => whenZero (sel == 0 && imm == 0) .stGetElapsed
  | 0x61#8 => whenZero (imm == 0) (.usReadDistance sel)
  | 0x62#8 => .ok (.usSetRange sel imm)
  | 0x63#8 => .ok (.usSetState sel imm)
  | _ => .error .illegalOpcode

/-- The commands of format HW (R84, R87, R89). -/
def decodeHW (op sel : Byte) (imm : Half) (w1 : Word) : Except Reject Instr :=
  match op with
  | 0x10#8 =>
    whenZero (w1.extractLsb' 8 24 == 0)
      (.gptInit sel imm (w1.extractLsb' 0 2) (w1.extractLsb' 2 2) (w1.getLsbD 4) (w1.getLsbD 5) (w1.extractLsb' 6 2))
  | 0x18#8 => .ok (.gptBusyWait sel imm w1)
  | 0x41#8 => whenZero (sel == 0) (.stInitReload imm w1)
  | 0x42#8 => whenZero (sel == 0 && imm == 0) (.stSetReload w1)
  | 0x48#8 => whenZero (sel == 0 && imm == 0) (.stDelayUs w1)
  | 0x49#8 => whenZero (sel == 0 && imm == 0) (.stDelayMs w1)
  | 0x60#8 =>
    whenZero (w1.extractLsb' 16 16 == 0)
      (.usInit sel imm (w1.extractLsb' 0 4) (w1.extractLsb' 4 4) (w1.extractLsb' 8 4) (w1.extractLsb' 12 4))
  | _ => .error .illegalOpcode

/-- The commands of format HWW (R85, R89). -/
def decodeHWW (op sel : Byte) (imm : Half) (w1 w2 : Word) : Except Reject Instr :=
  match op with
  | 0x19#8 => .ok (.gptSetIntervalSingle sel imm w1 w2)
  | 0x1A#8 => .ok (.gptSetIntervalPeriodic sel imm w1 w2)
  | 0x1D#8 =>
    whenZero (w1.extractLsb' 16 16 == 0) (.gptPwmInit sel imm (w1.extractLsb' 0 8) (w1.extractLsb' 8 8) w2)
  | 0x4A#8 => whenZero (sel == 0 && imm == 0) (.stSetIntervalSingle w1 w2)
  | 0x4B#8 => whenZero (sel == 0 && imm == 0) (.stSetIntervalPeriodic w1 w2)
  | _ => .error .illegalOpcode

/-- The command frame at the front of the command port's words (R82, R91 (1) and (2)). -/
def decodeCommand : List Word → Except Reject Instr
  | [] => .error .incomplete
  | w0 :: ws =>
    match formatOf (opField w0), ws with
    | none, _ => .error .illegalOpcode
    | some .h, _ => decodeH (opField w0) (selField w0) (immField w0)
    | some .hw, w1 :: _ => decodeHW (opField w0) (selField w0) (immField w0) w1
    | some .hww, w1 :: w2 :: _ => decodeHWW (opField w0) (selField w0) (immField w0) w1 w2
    | some .hw, [] => .error .incomplete
    | some .hww, [] => .error .incomplete
    | some .hww, [_] => .error .incomplete

/-- The event word at the front of the event port's words (R90). -/
def decodeEvent : List Word → Except Reject Instr
  | [] => .error .incomplete
  | w0 :: _ =>
    match opField w0 with
    | 0x80#8 =>
      if (selField w0).toNat < 4 ∧ immField w0 = 0 then .ok (.gptTick (selField w0)) else .error .notAnEvent
    | 0x81#8 => if selField w0 = 0 ∧ immField w0 = 0 then .ok .stTick else .error .notAnEvent
    | 0x82#8 =>
      if (selField w0).toNat < 16 ∧ immField w0 = 0 then .ok (.extiEdge (selField w0)) else .error .notAnEvent
    | _ => .error .notAnEvent

/-- What the words presented on a port stand for. -/
def decodeFrame (p : Port) (ws : List Word) : Except Reject Instr :=
  match p with
  | .command => decodeCommand ws
  | .event => decodeEvent ws

/-! ## Encoding -/

/-- The port an instruction's frame is presented on (R89, R90). -/
def Instr.port : Instr → Port
  | .gptTick _ => .event
  | .stTick => .event
  | .extiEdge _ => .event
  | .gptInit .. | .gptEnable .. | .gptDisable .. | .gptSetPrescaler .. | .gptSetPeriod .. | .gptSetCountDirection ..
  | .gptSetArrBuffer .. | .gptSetInterrupt .. | .gptBusyWait .. | .gptSetIntervalSingle .. | .gptSetIntervalPeriodic ..
  | .gptGetRemainingTime .. | .gptGetCounterValue .. | .gptPwmInit .. | .gptSetDutyCycle .. | .gptPwmDeinit ..
  | .stInit .. | .stInitReload .. | .stSetReload .. | .stStart | .stStop | .stReset | .stGetRemaining | .stGetElapsed
  | .stDelayUs .. | .stDelayMs .. | .stSetIntervalSingle .. | .stSetIntervalPeriodic ..
  | .usInit .. | .usReadDistance .. | .usSetRange .. | .usSetState .. => .command

/-- The opcode of an instruction (R89, R90). -/
def Instr.op : Instr → Byte
  | .gptInit .. => 0x10
  | .gptEnable .. => 0x11
  | .gptDisable .. => 0x12
  | .gptSetPrescaler .. => 0x13
  | .gptSetPeriod .. => 0x14
  | .gptSetCountDirection .. => 0x15
  | .gptSetArrBuffer .. => 0x16
  | .gptSetInterrupt .. => 0x17
  | .gptBusyWait .. => 0x18
  | .gptSetIntervalSingle .. => 0x19
  | .gptSetIntervalPeriodic .. => 0x1A
  | .gptGetRemainingTime .. => 0x1B
  | .gptGetCounterValue .. => 0x1C
  | .gptPwmInit .. => 0x1D
  | .gptSetDutyCycle .. => 0x1E
  | .gptPwmDeinit .. => 0x1F
  | .stInit .. => 0x40
  | .stInitReload .. => 0x41
  | .stSetReload .. => 0x42
  | .stStart => 0x43
  | .stStop => 0x44
  | .stReset => 0x45
  | .stGetRemaining => 0x46
  | .stGetElapsed => 0x47
  | .stDelayUs .. => 0x48
  | .stDelayMs .. => 0x49
  | .stSetIntervalSingle .. => 0x4A
  | .stSetIntervalPeriodic .. => 0x4B
  | .usInit .. => 0x60
  | .usReadDistance .. => 0x61
  | .usSetRange .. => 0x62
  | .usSetState .. => 0x63
  | .gptTick .. => 0x80
  | .stTick => 0x81
  | .extiEdge .. => 0x82

/-- GPT_INIT's configuration word (R84). -/
def gptConfigWord (unit dir : BitVec 2) (arpe uie : Bool) (ckd : BitVec 2) : Word :=
  (0#24) ++ ckd ++ BitVec.ofBool uie ++ BitVec.ofBool arpe ++ dir ++ unit

/-- GPT_PWM_INIT's operand word (R85). -/
def pwmOperandWord (channel mode : Byte) : Word := (0#16) ++ mode ++ channel

/-- US_INIT's pin word (R87). -/
def pinsWord (echoPin echoPort trigPin trigPort : Nibble) : Word :=
  (0#16) ++ trigPort ++ trigPin ++ echoPort ++ echoPin

/-- The frame of an instruction (R80 to R90). -/
def encode (i : Instr) : List Word :=
  match i with
  | .gptInit t arr unit dir arpe uie ckd => [headerWord i.op t arr, gptConfigWord unit dir arpe uie ckd]
  | .gptEnable t => [headerWord i.op t 0]
  | .gptDisable t => [headerWord i.op t 0]
  | .gptSetPrescaler t psc => [headerWord i.op t psc]
  | .gptSetPeriod t arr => [headerWord i.op t arr]
  | .gptSetCountDirection t dir => [headerWord i.op t dir]
  | .gptSetArrBuffer t on => [headerWord i.op t on]
  | .gptSetInterrupt t on => [headerWord i.op t on]
  | .gptBusyWait t tickType ticks => [headerWord i.op t tickType, ticks]
  | .gptSetIntervalSingle t tickType ticks cb => [headerWord i.op t tickType, ticks, cb]
  | .gptSetIntervalPeriodic t tickType ticks cb => [headerWord i.op t tickType, ticks, cb]
  | .gptGetRemainingTime t => [headerWord i.op t 0]
  | .gptGetCounterValue t => [headerWord i.op t 0]
  | .gptPwmInit t arr channel mode freq => [headerWord i.op t arr, pwmOperandWord channel mode, freq]
  | .gptSetDutyCycle t channel percent => [headerWord i.op t (channel ++ percent)]
  | .gptPwmDeinit t channel => [headerWord i.op t channel]
  | .stInit clk => [headerWord i.op 0 clk]
  | .stInitReload clk reload => [headerWord i.op 0 clk, reload]
  | .stSetReload reload => [headerWord i.op 0 0, reload]
  | .stStart => [headerWord i.op 0 0]
  | .stStop => [headerWord i.op 0 0]
  | .stReset => [headerWord i.op 0 0]
  | .stGetRemaining => [headerWord i.op 0 0]
  | .stGetElapsed => [headerWord i.op 0 0]
  | .stDelayUs us => [headerWord i.op 0 0, us]
  | .stDelayMs ms => [headerWord i.op 0 0, ms]
  | .stSetIntervalSingle us cb => [headerWord i.op 0 0, us, cb]
  | .stSetIntervalPeriodic us cb => [headerWord i.op 0 0, us, cb]
  | .usInit id range echoPin echoPort trigPin trigPort =>
    [headerWord i.op id range, pinsWord echoPin echoPort trigPin trigPort]
  | .usReadDistance id => [headerWord i.op id 0]
  | .usSetRange id cm => [headerWord i.op id cm]
  | .usSetState id state => [headerWord i.op id state]
  | .gptTick t => [headerWord i.op t 0]
  | .stTick => [headerWord i.op 0 0]
  | .extiEdge line => [headerWord i.op line 0]

/-! ## Frames as bytes (20_memory.md R62) -/

/-- A word as bytes, least significant byte first (R62). -/
def wordBytes (w : Word) : List Byte :=
  [w.extractLsb' 0 8, w.extractLsb' 8 8, w.extractLsb' 16 8, w.extractLsb' 24 8]

/-- A frame serialised to bytes, words in frame order (R62). -/
def frameBytes (ws : List Word) : List Byte := ws.flatMap wordBytes

/-- The whole words of a byte sequence; bytes after the last whole word make no word (R62, R63). -/
def wordsOfBytes : List Byte → List Word
  | b0 :: b1 :: b2 :: b3 :: bs => (b3 ++ b2 ++ b1 ++ b0) :: wordsOfBytes bs
  | _ => []

/-! ## Frames as one number, as spec/opcode_table.json numbers the bits -/

/-- The frame whose bits are the low `nbits` bits of `w`, word 0 lowest, every higher bit 0; as many words as word 0's
opcode requires (R82). -/
def tableFrame (nbits w : Nat) : Port × List Word :=
  let bits := w % 2 ^ nbits
  let w0 : Word := BitVec.ofNat 32 bits
  let port : Port := if isEventOp (opField w0) then .event else .command
  (port, [w0, BitVec.ofNat 32 (bits / 4294967296), BitVec.ofNat 32 (bits / 18446744073709551616)].take (frameLength port [w0]))

/-- The instruction the decoder reads from a table row's bits. The opcodes of R90 are presented on the event port, every
other on the command port (DESIGN CHOICE, log 16). -/
def decodeTableWord (nbits w : Nat) : Option Instr :=
  match decodeFrame (tableFrame nbits w).1 (tableFrame nbits w).2 with
  | .ok i => some i
  | .error _ => none

end Sys2Proof
end

