-- ==== Sys2Proof/Machine/Ports.lean ====
section
/-! DEFINITION. The command and event ports: how a step takes the next frame from what the environment presents
(00_scope.md R18, 20_memory.md R60, R63; 30_encoding.md R90, R91). -/

namespace Sys2Proof.Machine

/-- The inputs still to come after a frame is taken from presentation `p`: the words past the frame, if any, are presented
next on the same port (DESIGN CHOICE, log 4). -/
def remainingInput (p : Presentation) (rest : List Presentation) : List Presentation :=
  match p.words.drop (frameLength p.port p.words) with
  | [] => rest
  | ws => { p with words := ws } :: rest

/-- One step: take the next frame and run what it stands for. With nothing presented the block waits (70_reset_and_hazards.md
R300; log 2); an undefined or reserved encoding on the command port is answered ILLEGAL (30_encoding.md R91, R93); a
word that is no event is ignored (R90); words that are not a whole frame make no step of the block (20_memory.md R63). -/
def serve (run : Instr → State → Result) (s : State) : Result :=
  match s.input with
  | [] => event id s
  | p :: rest =>
    let s' := { s with input := remainingInput p rest }
    match decodeFrame p.port p.words with
    | .ok i => run i s'
    | .error .illegalOpcode => command (respond .illegal 0) s'
    | .error .reservedField => command (respond .illegal 0) s'
    | .error .notAnEvent => event id s'
    | .error .incomplete => event id s'

/-- Present a table row's frame as the very next input. -/
def presentFrame (nbits w : Nat) (s : State) : State :=
  { s with input := { port := (tableFrame nbits w).1, words := (tableFrame nbits w).2 } :: s.input }

end Sys2Proof.Machine
end

