-- ==== Sys2Proof/Machine/Step.lean ====
section
/-! DEFINITION. The step: the next input, run (00_scope.md R18). -/

namespace Sys2Proof.Machine

/-- One step of the block: `step(state, input)` of 00_scope.md R18, the input being the next of `s.input` (log 1). -/
def step (s : State) : Host.Outcome State Fault Refusal := serve exec s

/-- `s` with the frame whose low `nbits` bits are `w` presented as the very next input, on the port its opcode belongs
to (log 1, log 16). -/
def State.withFetchWord (s : State) (nbits w : Nat) : State := presentFrame nbits w s

end Sys2Proof.Machine
end

