-- ==== Sys2Proof/Machine/Text.lean ====
section
/-! DEFINITION. The textual form of commands and events (30_encoding.md R98) and the source's function names for them
(R99). No rule of execution reads it (92_eei_decisions.md D44). -/

namespace Sys2Proof.Machine

/-- The mnemonic of an instruction (30_encoding.md R89, R90). -/
def mnemonic : Instr → String
  | .gptInit .. => "GPT_INIT"
  | .gptEnable .. => "GPT_ENABLE"
  | .gptDisable .. => "GPT_DISABLE"
  | .gptSetPrescaler .. => "GPT_SET_PRESCALER"
  | .gptSetPeriod .. => "GPT_SET_PERIOD"
  | .gptSetCountDirection .. => "GPT_SET_COUNT_DIRECTION"
  | .gptSetArrBuffer .. => "GPT_SET_ARR_BUFFER"
  | .gptSetInterrupt .. => "GPT_SET_INTERRUPT"
  | .gptBusyWait .. => "GPT_BUSY_WAIT"
  | .gptSetIntervalSingle .. => "GPT_SET_INTERVAL_SINGLE"
  | .gptSetIntervalPeriodic .. => "GPT_SET_INTERVAL_PERIODIC"
  | .gptGetRemainingTime .. => "GPT_GET_REMAINING_TIME"
  | .gptGetCounterValue .. => "GPT_GET_COUNTER_VALUE"
  | .gptPwmInit .. => "GPT_PWM_INIT"
  | .gptSetDutyCycle .. => "GPT_SET_DUTY_CYCLE"
  | .gptPwmDeinit .. => "GPT_PWM_DEINIT"
  | .stInit .. => "ST_INIT"
  | .stInitReload .. => "ST_INIT_RELOAD"
  | .stSetReload .. => "ST_SET_RELOAD"
  | .stStart => "ST_START"
  | .stStop => "ST_STOP"
  | .stReset => "ST_RESET"
  | .stGetRemaining => "ST_GET_REMAINING"
  | .stGetElapsed => "ST_GET_ELAPSED"
  | .stDelayUs .. => "ST_DELAY_US"
  | .stDelayMs .. => "ST_DELAY_MS"
  | .stSetIntervalSingle .. => "ST_SET_INTERVAL_SINGLE"
  | .stSetIntervalPeriodic .. => "ST_SET_INTERVAL_PERIODIC"
  | .usInit .. => "US_INIT"
  | .usReadDistance .. => "US_READ_DISTANCE"
  | .usSetRange .. => "US_SET_RANGE"
  | .usSetState .. => "US_SET_STATE"
  | .gptTick .. => "GPT_TICK"
  | .stTick => "ST_TICK"
  | .extiEdge .. => "EXTI_EDGE"

/-- The source's function name for a command, `none` for an event (30_encoding.md R99). -/
def sourceName : Instr → Option String
  | .gptInit .. => some "init"
  | .gptEnable .. => some "enable"
  | .gptDisable .. => some "disable"
  | .gptSetPrescaler .. => some "setPrescaler"
  | .gptSetPeriod .. => some "setPeriod"
  | .gptSetCountDirection .. => some "setCountDirection"
  | .gptSetArrBuffer .. => some "setARRBuffer"
  | .gptSetInterrupt .. => some "setInterrupt"
  | .gptBusyWait .. => some "busyWait"
  | .gptSetIntervalSingle .. => some "setIntervalSingle"
  | .gptSetIntervalPeriodic .. => some "setIntervalPeriodic"
  | .gptGetRemainingTime .. => some "getRemainingTime"
  | .gptGetCounterValue .. => some "getCounterValue"
  | .gptPwmInit .. => some "pwmInit"
  | .gptSetDutyCycle .. => some "setDutyCycle"
  | .gptPwmDeinit .. => some "pwmDeinit"
  | .stInit .. => some "init"
  | .stInitReload .. => some "init"
  | .stSetReload .. => some "setReloadValue"
  | .stStart => some "start"
  | .stStop => some "stop"
  | .stReset => some "reset"
  | .stGetRemaining => some "getRemainingCounts"
  | .stGetElapsed => some "getElapsedCounts"
  | .stDelayUs .. => some "delayMicroseconds"
  | .stDelayMs .. => some "delayMilliseconds"
  | .stSetIntervalSingle .. => some "setIntervalSingle"
  | .stSetIntervalPeriodic .. => some "setIntervalPeriodic"
  | .usInit .. => some "init"
  | .usReadDistance .. => some "readDistance"
  | .usSetRange .. => some "setRange"
  | .usSetState .. => some "setState"
  | .gptTick .. => none
  | .stTick => none
  | .extiEdge .. => none

/-- A number operand, in decimal (30_encoding.md R98). -/
def numText {w : Nat} (v : BitVec w) : String := toString v.toNat

/-- A flag operand (30_encoding.md R98). -/
def flagText (b : Bool) : String := if b then "1" else "0"

/-- An enumerated operand by name; a code outside the enumeration is written as its number (30_encoding.md R98). -/
def enumText (names : List String) (code : Nat) : String := names.getD code (toString code)

/-- The operands of an instruction, `t` or `id` first, then `imm16`, then `w1`, then `w2` (30_encoding.md R98). -/
def operandTexts : Instr → List (String × String)
  | .gptInit t arr unit dir arpe uie ckd =>
    [("t", numText t), ("arr", numText arr), ("unit", enumText ["ms", "s"] unit.toNat),
     ("dir", enumText ["up", "down", "center"] dir.toNat), ("arpe", flagText arpe), ("uie", flagText uie),
     ("ckd", numText ckd)]
  | .gptEnable t => [("t", numText t)]
  | .gptDisable t => [("t", numText t)]
  | .gptSetPrescaler t psc => [("t", numText t), ("psc", numText psc)]
  | .gptSetPeriod t arr => [("t", numText t), ("arr", numText arr)]
  | .gptSetCountDirection t dir => [("t", numText t), ("dir", enumText ["up", "down", "center"] dir.toNat)]
  | .gptSetArrBuffer t on => [("t", numText t), ("on", numText on)]
  | .gptSetInterrupt t on => [("t", numText t), ("on", numText on)]
  | .gptBusyWait t tickType ticks => [("t", numText t), ("tickType", numText tickType), ("ticks", numText ticks)]
  | .gptSetIntervalSingle t tickType ticks cb =>
    [("t", numText t), ("tickType", numText tickType), ("ticks", numText ticks), ("cb", numText cb)]
  | .gptSetIntervalPeriodic t tickType ticks cb =>
    [("t", numText t), ("tickType", numText tickType), ("ticks", numText ticks), ("cb", numText cb)]
  | .gptGetRemainingTime t => [("t", numText t)]
  | .gptGetCounterValue t => [("t", numText t)]
  | .gptPwmInit t arr channel mode freq =>
    [("t", numText t), ("arr", numText arr), ("channel", numText channel),
     ("mode", enumText ["pwmA", "pwmB"] mode.toNat), ("freq", numText freq)]
  | .gptSetDutyCycle t channel percent => [("t", numText t), ("channel", numText channel), ("percent", numText percent)]
  | .gptPwmDeinit t channel => [("t", numText t), ("channel", numText channel)]
  | .stInit clk => [("clk", enumText ["div1", "div8"] clk.toNat)]
  | .stInitReload clk reload => [("clk", enumText ["div1", "div8"] clk.toNat), ("reload", numText reload)]
  | .stSetReload reload => [("reload", numText reload)]
  | .stStart => []
  | .stStop => []
  | .stReset => []
  | .stGetRemaining => []
  | .stGetElapsed => []
  | .stDelayUs us => [("us", numText us)]
  | .stDelayMs ms => [("ms", numText ms)]
  | .stSetIntervalSingle us cb => [("us", numText us), ("cb", numText cb)]
  | .stSetIntervalPeriodic us cb => [("us", numText us), ("cb", numText cb)]
  | .usInit id range echoPin echoPort trigPin trigPort =>
    [("id", numText id), ("range", numText range), ("echoPin", numText echoPin), ("echoPort", numText echoPort),
     ("trigPin", numText trigPin), ("trigPort", numText trigPort)]
  | .usReadDistance id => [("id", numText id)]
  | .usSetRange id cm => [("id", numText id), ("cm", numText cm)]
  | .usSetState id state => [("id", numText id), ("state", enumText ["off", "on"] state.toNat)]
  | .gptTick t => [("t", numText t)]
  | .stTick => []
  | .extiEdge line => [("line", numText line)]

/-- The operands joined by commas (30_encoding.md R98). -/
def joinOperands : List (String × String) → String
  | [] => ""
  | [o] => o.1 ++ "=" ++ o.2
  | o :: os => o.1 ++ "=" ++ o.2 ++ ", " ++ joinOperands os

/-- The textual form of an instruction (30_encoding.md R98). -/
def asmText (i : Instr) : String :=
  match operandTexts i with
  | [] => mnemonic i
  | os => mnemonic i ++ " " ++ joinOperands os

end Sys2Proof.Machine
end

