-- ==== Sys2Proof/WellFormed.lean ====
section
/-! DEFINITION. Which terms of `Instr` are frames of TSB. Every operand of a command is legal as an encoding (an illegal
VALUE is answered by a failure response, 30_encoding.md R91); of the events, a `sel` outside the stated range is no event
(R90). -/

namespace Sys2Proof

/-- GPT_TICK's `sel` is a timer ordinal, 0 to 3 (30_encoding.md R90). -/
def tickTimerOk (t : Byte) : Bool := decide (t.toNat < 4)

/-- EXTI_EDGE's `sel` is an EXTI line, 0 to 15 (30_encoding.md R90). -/
def edgeLineOk (line : Byte) : Bool := decide (line.toNat < 16)

/-- The instruction is one that a frame on its port can stand for. -/
def Instr.wellFormed : Instr → Bool
  | .gptInit .. => true
  | .gptEnable .. => true
  | .gptDisable .. => true
  | .gptSetPrescaler .. => true
  | .gptSetPeriod .. => true
  | .gptSetCountDirection .. => true
  | .gptSetArrBuffer .. => true
  | .gptSetInterrupt .. => true
  | .gptBusyWait .. => true
  | .gptSetIntervalSingle .. => true
  | .gptSetIntervalPeriodic .. => true
  | .gptGetRemainingTime .. => true
  | .gptGetCounterValue .. => true
  | .gptPwmInit .. => true
  | .gptSetDutyCycle .. => true
  | .gptPwmDeinit .. => true
  | .stInit .. => true
  | .stInitReload .. => true
  | .stSetReload .. => true
  | .stStart => true
  | .stStop => true
  | .stReset => true
  | .stGetRemaining => true
  | .stGetElapsed => true
  | .stDelayUs .. => true
  | .stDelayMs .. => true
  | .stSetIntervalSingle .. => true
  | .stSetIntervalPeriodic .. => true
  | .usInit .. => true
  | .usReadDistance .. => true
  | .usSetRange .. => true
  | .usSetState .. => true
  | .gptTick t => tickTimerOk t
  | .stTick => true
  | .extiEdge line => edgeLineOk line

end Sys2Proof
end

