-- ==== Sys2Proof/Safety.lean ====
section
/-! DEFINITION. The terms the claims use: when the block takes an input, the invariants of its state, and repeated
events. -/

namespace Sys2Proof.Machine

/-! ## When the block takes an input -/

/-- A step is enabled: the configuration is well formed and no fault is set (00_scope.md R9, R18). -/
abbrev State.Live (s : State) : Prop := wellFormedConfig s.cfg = true ∧ s.fault = none

/-- A command is accepted (00_scope.md R18, 10_state.md R21). -/
abbrev State.Ready (s : State) : Prop := s.Live ∧ s.fg = .idle

/-- A program must not let the block reach a fault (60_exceptions.md R276). -/
abbrev State.Safe (s : State) : Prop := s.fault = none

/-! ## Invariants -/

/-- `VAL ≤ LOAD` (10_state.md R37). -/
def State.CountWithinLoad (s : State) : Prop := s.st.val ≤ s.st.load

/-- A pending update flag with its enable set is never left standing (60_exceptions.md R278). -/
def State.NoStaleFlag (s : State) : Prop :=
  s.fault = none → ∀ n : Fin 4, ¬(s.timers[n].uif = true ∧ s.timers[n].uie = true)

/-- The tick interrupt is enabled only with a filled slot, on an initialised SysTick (43_systick.md R201). -/
def State.TickintHasSlot (s : State) : Prop :=
  s.st.tickint = true → s.st.slot.isSome = true ∧ s.st.inited = true

/-- No stored handle is `NULL_CB` (10_state.md R33, R39). -/
def State.HandlesNonNull (s : State) : Prop :=
  (∀ n : Fin 4, ∀ x ∈ s.timers[n].slot, x.cb ≠ 0) ∧ ∀ x ∈ s.st.slot, x.cb ≠ 0

/-- There is one place for each sensor index; a record's timeout is `Timeout` of its range, its echo line has the handler
registered, and SysTick is initialised (10_state.md R41, 44_ultrasonic.md R234). -/
def State.SensorsConsistent (s : State) : Prop :=
  s.sensors.length = s.cfg.usCapacity ∧
  ∀ i r, sensorAt i s = some r →
    r.timeout = timeoutTicks r.range ∧ s.extiReg[r.echoPin.toNat]'r.echoPin.isLt = true ∧ s.st.inited = true

/-- A line is enabled only after its handler was registered (70_reset_and_hazards.md R303). -/
def State.EnabledLinesRegistered (s : State) : Prop := ∀ l : Fin 16, s.extiEn[l] = true → s.extiReg[l] = true

/-- The last distance fits 29 bits (10_state.md R43). -/
def State.DistanceBounded (s : State) : Prop := s.ses.distance ≤ 285212655

/-- The sensor a delay's continuation will drive. -/
def contSensor : Continuation → Option Nat
  | .respond => none
  | .usTrigHigh i => some i
  | .usTrigLow i => some i

/-- No measurement is in progress (44_ultrasonic.md R241). -/
abbrev sessionQuiet (ses : Session) : Prop := ses.state = .idle ∨ ses.state = .done

/-- What holds between steps while a blocking operation runs: its wait condition is not met yet (10_state.md R22), the
counter it waits on runs, no interrupt interferes, and the session is quiet unless a distance read runs
(41_gpt_interval.md R145, 43_systick.md R203, 44_ultrasonic.md R235 to R241). -/
def ForegroundOk (s : State) : Foreground → Prop
  | .idle => sessionQuiet s.ses
  | .gptWait n target =>
    sessionQuiet s.ses ∧
    s.timers[n].inited = true ∧ s.timers[n].cen = true ∧ s.timers[n].uie = false ∧ s.timers[n].cnt ≠ target
  | .stDelay rest k =>
    s.st.enable = true ∧ s.st.tickint = false ∧ s.st.countflag = false ∧ s.st.val ≠ 0 ∧ (∀ x ∈ rest, x ≠ 0) ∧
    match contSensor k with
    | none => sessionQuiet s.ses
    | some i => (sensorAt i s).isSome = true ∧ s.ses.state = .waitingForRisingEdge
  | .usPoll i =>
    s.st.enable = true ∧ s.st.tickint = false ∧
    (s.ses.state = .waitingForRisingEdge ∨ s.ses.state = .waitingForFallingEdge) ∧
    ∃ r, sensorAt i s = some r ∧ elapsed s.st ≤ r.timeout

/-- `ForegroundOk` of the operation in progress, unless a fault has stopped the block. -/
def State.ForegroundSettled (s : State) : Prop := s.fault = none → ForegroundOk s s.fg

/-- All of them. -/
structure State.Inv (s : State) : Prop where
  countWithinLoad : s.CountWithinLoad
  noStaleFlag : s.NoStaleFlag
  tickintHasSlot : s.TickintHasSlot
  handlesNonNull : s.HandlesNonNull
  sensorsConsistent : s.SensorsConsistent
  enabledLinesRegistered : s.EnabledLinesRegistered
  distanceBounded : s.DistanceBounded
  foregroundSettled : s.ForegroundSettled

/-! ## States that differ in one thing -/

/-- `s` with one more response on the trace. -/
def State.answer (s : State) (status : Status) (value : Word) : State :=
  { s with out := s.out ++ [.response status value] }

/-- `s` with the sticky fault set to `r`. -/
def State.raised (s : State) (r : Reason) : State := { s with fault := some r }

/-- `s` with timer `n` replaced. -/
def State.putTimer (s : State) (n : Fin 4) (t : Timer) : State := { s with timers := s.timers.set n t }

/-- `s` with the ST unit replaced. -/
def State.putSt (s : State) (st : SysTick) : State := { s with st := st }

/-- `s` with sensor record `i` replaced. -/
def State.putSensor (s : State) (i : Nat) (r : Sensor) : State := { s with sensors := s.sensors.set i (some r) }

/-- A timer with channel `c` (at place `c - 1`) replaced. -/
def Timer.putChannel (t : Timer) (c : Fin 4) (x : Channel) : Timer := { t with channels := t.channels.set c x }

/-- The timer an instruction's `sel` names, for a GPT instruction. -/
def gptTarget : Instr → Option Byte
  | .gptInit t .. => some t
  | .gptEnable t => some t
  | .gptDisable t => some t
  | .gptSetPrescaler t _ => some t
  | .gptSetPeriod t _ => some t
  | .gptSetCountDirection t _ => some t
  | .gptSetArrBuffer t _ => some t
  | .gptSetInterrupt t _ => some t
  | .gptBusyWait t .. => some t
  | .gptSetIntervalSingle t .. => some t
  | .gptSetIntervalPeriodic t .. => some t
  | .gptGetRemainingTime t => some t
  | .gptGetCounterValue t => some t
  | .gptPwmInit t .. => some t
  | .gptSetDutyCycle t .. => some t
  | .gptPwmDeinit t _ => some t
  | .gptTick t => some t
  | .stInit .. => none
  | .stInitReload .. => none
  | .stSetReload .. => none
  | .stStart => none
  | .stStop => none
  | .stReset => none
  | .stGetRemaining => none
  | .stGetElapsed => none
  | .stDelayUs .. => none
  | .stDelayMs .. => none
  | .stSetIntervalSingle .. => none
  | .stSetIntervalPeriodic .. => none
  | .usInit .. => none
  | .usReadDistance .. => none
  | .usSetRange .. => none
  | .usSetState .. => none
  | .stTick => none
  | .extiEdge .. => none

/-! ## The checks before an operation's effects (30_encoding.md R91) -/

/-- The answers of a GPT command other than GPT_INIT before its effects: a bad ordinal, then bad operands, give
FAIL_PARAM; a timer that is not initialised raises NotInitialised (40_gpt_config.md R110). -/
def GptGuarded (i : Instr) (sel : Byte) (paramsOk : Prop) (s : State) : Prop :=
  (4 ≤ sel.toNat → exec i s = .next (s.answer .failParam 0)) ∧
  (sel.toNat < 4 → ¬ paramsOk → exec i s = .next (s.answer .failParam 0)) ∧
  ∀ n : Fin 4, sel.toNat = n.val → paramsOk → s.timers[n].inited = false →
    exec i s = .next (s.raised .notInitialised)

/-- The answers of an ST command other than the inits before its effects (43_systick.md R190). -/
def StGuarded (i : Instr) (paramsOk : Prop) (s : State) : Prop :=
  (¬ paramsOk → exec i s = .next (s.answer .failParam 0)) ∧
  (paramsOk → s.st.inited = false → exec i s = .next (s.raised .notInitialised))

/-- The answers of a US command other than US_INIT before its effects (44_ultrasonic.md R230). -/
def UsGuarded (i : Instr) (id : Byte) (paramsOk : Prop) (s : State) : Prop :=
  (s.cfg.usCapacity ≤ id.toNat → exec i s = .next (s.answer .failParam 0)) ∧
  (id.toNat < s.cfg.usCapacity → ¬ paramsOk → exec i s = .next (s.answer .failParam 0)) ∧
  (id.toNat < s.cfg.usCapacity → paramsOk → sensorAt id.toNat s = none →
    exec i s = .next (s.raised .notInitialised))

/-! ## Frames that are no command (30_encoding.md R93) -/

/-- The `op` values R93 lists as unassigned on the command port. -/
abbrev undefinedOp (op : Byte) : Prop :=
  op.toNat ≤ 0x0F ∨ (0x20 ≤ op.toNat ∧ op.toNat ≤ 0x3F) ∨ (0x4C ≤ op.toNat ∧ op.toNat ≤ 0x5F) ∨ 0x64 ≤ op.toNat

/-- A non-zero field that R84, R85, R87 or the row of R89 marks reserved. -/
abbrev reservedNonZero (op sel : Byte) (imm : Half) (w1 : Word) : Prop :=
  (op ∈ [0x11#8, 0x12#8, 0x1B#8, 0x1C#8, 0x61#8] ∧ imm ≠ 0) ∨
  (op ∈ [0x40#8, 0x41#8] ∧ sel ≠ 0) ∨
  (0x42 ≤ op.toNat ∧ op.toNat ≤ 0x4B ∧ (sel ≠ 0 ∨ imm ≠ 0)) ∨
  (op = 0x10#8 ∧ w1.toNat / 256 ≠ 0) ∨
  (op ∈ [0x1D#8, 0x60#8] ∧ w1.toNat / 65536 ≠ 0)

/-- The word is an event frame of R90. -/
abbrev eventWord (w : Word) : Prop :=
  immField w = 0 ∧
  ((opField w = 0x80#8 ∧ (selField w).toNat ≤ 3) ∨ (opField w = 0x81#8 ∧ selField w = 0) ∨
   (opField w = 0x82#8 ∧ (selField w).toNat ≤ 15))

/-! ## Repeated events -/

/-- `k` consecutive copies of one event or command (30_encoding.md R98's `× k`), stopping at the first stop. -/
def execTimes (i : Instr) : Nat → State → Host.Outcome State Fault Refusal
  | 0, s => .next s
  | k + 1, s =>
    match exec i s with
    | .next t => execTimes i k t
    | .fault r => .fault r
    | .refused r => .refused r

end Sys2Proof.Machine
end

