-- ==== Sys2Proof/Certificates/Slice0/Obligations.lean ====
section
/-! DEFINITION. The statements about TSB. Each docstring names the rule of spec/ it formalises. -/

open Sys2Proof Sys2Proof.Machine

/-! ## Frames -/

/-- Decoding the frame of a well-formed instruction gives the instruction back and takes exactly the frame's words,
whatever words follow on the port (30_encoding.md R80 to R90). -/
def Obligations.DecodeEncodeRoundTrip : Prop :=
  ∀ (i : Instr) (rest : List Word), i.wellFormed = true →
    decodeFrame i.port (encode i ++ rest) = .ok i ∧ frameLength i.port (encode i ++ rest) = (encode i).length

/-- A frame the decoder accepts is, bit for bit, the frame of the instruction it reads: no bit is dropped
(30_encoding.md R80 to R93). -/
def Obligations.AcceptedFrameIsItsEncoding : Prop :=
  ∀ (p : Port) (ws : List Word) (i : Instr), decodeFrame p ws = .ok i →
    i.wellFormed = true ∧ i.port = p ∧ ws.take (frameLength p ws) = encode i

/-- Frames written out in spec/ decode to the instructions they stand for (95_test_vectors.md section 2.1, 30_encoding.md
R98). -/
def Obligations.SpecFramesDecode : Prop :=
  decodeFrame .command [0x1000000A#32, 0x000000B1#32] = .ok (.gptInit 0 10 1 0 true true 2) ∧
  decodeFrame .command [0x1A010001#32, 0x00000003#32, 0x20000201#32] =
    .ok (.gptSetIntervalPeriodic 1 1 3 0x20000201) ∧
  decodeFrame .command [0x1D0303E7#32, 0x00000002#32, 0x000003E8#32] = .ok (.gptPwmInit 3 999 2 0 1000) ∧
  decodeFrame .command [0x49000000#32, 0x00001388#32] = .ok (.stDelayMs 5000) ∧
  decodeFrame .command [0x60010002#32, 0x00000D1C#32] = .ok (.usInit 1 2 12 1 13 0) ∧
  decodeFrame .event [0x80020000#32] = .ok (.gptTick 2) ∧
  decodeFrame .event [0x82060000#32] = .ok (.extiEdge 6)

/-- A step runs the decoded instruction on the state whose input has moved past its frame; a presentation that is
exactly the frame of a well-formed instruction is consumed whole (00_scope.md R18; the input list is the model's, log 1). -/
def Obligations.StepRunsDecodedInstruction : Prop :=
  (∀ (s : State) (p : Presentation) (rest : List Presentation) (i : Instr),
    s.input = p :: rest → decodeFrame p.port p.words = .ok i →
    step s = exec i { s with input := remainingInput p rest }) ∧
  ∀ (s : State) (rest : List Presentation) (i : Instr), i.wellFormed = true →
    s.input = { port := i.port, words := encode i } :: rest → step s = exec i { s with input := rest }

/-- An unassigned opcode, or a whole frame with a non-zero reserved field, on the command port of a ready block is
answered ILLEGAL; no state is written and the fault is not set (30_encoding.md R93; the input list is the model's, log 1 and
log 4). -/
def Obligations.IllegalFramesAreAnswered : Prop :=
  ∀ (s : State) (w0 : Word) (ws : List Word) (rest : List Presentation), s.Ready →
    s.input = { port := .command, words := w0 :: ws } :: rest →
    undefinedOp (opField w0) ∨
      (∃ f : Format, formatOf (opField w0) = some f ∧ formatWords f ≤ ws.length + 1 ∧
        reservedNonZero (opField w0) (selField w0) (immField w0) (ws.headD 0)) →
    step s = .next ({ s with
      input := remainingInput { port := .command, words := w0 :: ws } rest }.answer .illegal 0)

/-- A word on the event port that is no event of the table is ignored: no state change, no record (30_encoding.md R90).
That the input list moves past the word and keeps the words after it is the model's choice, log 1 and log 4. -/
def Obligations.OtherEventWordsAreIgnored : Prop :=
  ∀ (s : State) (w : Word) (more : List Word) (rest : List Presentation), s.Live →
    s.input = { port := .event, words := w :: more } :: rest → ¬ eventWord w →
    step s = .next { s with input := remainingInput { port := .event, words := w :: more } rest }

/-- While the foreground is busy no command is taken: no response and no state change, whatever is presented on the
command port (10_state.md R21; that the presentation is over after the step is the model's choice, log 3). -/
def Obligations.BusyForegroundTakesNoCommand : Prop :=
  ∀ s : State, s.Live → s.fg ≠ .idle →
    (∀ i : Instr, i.port = .command → exec i s = .next s) ∧
    ∀ (p : Presentation) (rest : List Presentation), s.input = p :: rest → p.port = .command →
      step s = .next { s with input := remainingInput p rest }

/-- Fewer words than the opcode requires are not a frame: nothing changes but that the presentation is over (20_memory.md
R63; the last is the model's choice, log 4). -/
def Obligations.ShortFrameMakesNoChange : Prop :=
  ∀ (s : State) (w0 : Word) (ws : List Word) (f : Format) (rest : List Presentation), s.Live →
    formatOf (opField w0) = some f → (w0 :: ws).length < formatWords f →
    s.input = { port := .command, words := w0 :: ws } :: rest → step s = .next { s with input := rest }

/-- A word is serialised least significant byte first and the words of a frame in frame order, so that the words read back
from the bytes of a frame are the frame's (20_memory.md R62). -/
def Obligations.FrameBytesAreLittleEndian : Prop :=
  (∀ w : Word, ∃ b0 b1 b2 b3 : Byte, wordBytes w = [b0, b1, b2, b3] ∧
    w.toNat = b0.toNat + 256 * b1.toNat + 65536 * b2.toNat + 16777216 * b3.toNat) ∧
  frameBytes [] = [] ∧ (∀ (w : Word) (ws : List Word), frameBytes (w :: ws) = wordBytes w ++ frameBytes ws) ∧
  ∀ ws : List Word, wordsOfBytes (frameBytes ws) = ws

/-! ## The block as a whole -/

/-- An ill-formed configuration is refused (00_scope.md R9). That the refusal stands at every step and every instruction,
before the sticky fault is looked at, is the model's reading, log 6. -/
def Obligations.IllFormedConfigurationIsRefused : Prop :=
  ∀ s : State, s.cfg.fAhb % 8000000 ≠ 0 ∨ s.cfg.fPclk = 0 →
    step s = .refused .illFormedConfiguration ∧ ∀ i : Instr, exec i s = .refused .illFormedConfiguration

/-- The sticky fault: raising sets it, nothing clears it because no step is enabled once it is set, and it is `none` at
reset (10_state.md R23). -/
def Obligations.StickyFaultStopsTheBlock : Prop :=
  (∀ (s : State) (r : Reason), s.fault = none → (raise r s).fault = some r) ∧
  (∀ (s t : State) (r : Reason), s.fault = some r → step s ≠ .next t ∧ ∀ i : Instr, exec i s ≠ .next t) ∧
  ∀ c : Config, (State.resetWith c).fault = none

/-- The reset values, for every configuration (10_state.md R47). -/
def Obligations.ResetValues : Prop :=
  ∀ c : Config,
    (State.resetWith c).fg = .idle ∧ (State.resetWith c).fault = none ∧ (State.resetWith c).out = [] ∧
    (∀ n : Fin 4, (State.resetWith c).timers[n] =
      { inited := false, cen := false, dir := .up, arpe := false, ckd := .ckd0, uie := false, uif := false, psc := 0,
        arr := 0, arrSh := 0, cnt := 0,
        channels := #v[⟨0, .off, false, false⟩, ⟨0, .off, false, false⟩, ⟨0, .off, false, false⟩,
                       ⟨0, .off, false, false⟩],
        slot := none }) ∧
    (State.resetWith c).st =
      { inited := false, enable := false, tickint := false, clkDiv := .div1, countflag := false, load := 0, val := 0,
        slot := none, ovw := false } ∧
    (State.resetWith c).sensors.length = c.usCapacity ∧ (∀ i : Nat, sensorAt i (State.resetWith c) = none) ∧
    (State.resetWith c).ses = { state := .idle, distance := 0 } ∧
    ∀ l : Fin 16, (State.resetWith c).extiEn[l] = false ∧ (State.resetWith c).extiReg[l] = false

/-- After reset a command is accepted, no interrupt source is enabled, and tick and edge events change nothing
(70_reset_and_hazards.md R301). -/
def Obligations.ResetIsQuiet : Prop :=
  ∀ c : Config, wellFormedConfig c = true →
    (State.resetWith c).Ready ∧
    (∀ n : Fin 4, (State.resetWith c).timers[n].uie = false ∧ (State.resetWith c).timers[n].cen = false) ∧
    (State.resetWith c).st.tickint = false ∧ (State.resetWith c).st.enable = false ∧
    (∀ l : Fin 16, (State.resetWith c).extiEn[l] = false) ∧
    (∀ t : Byte, exec (.gptTick t) (State.resetWith c) = .next (State.resetWith c)) ∧
    exec .stTick (State.resetWith c) = .next (State.resetWith c) ∧
    ∀ l : Byte, exec (.extiEdge l) (State.resetWith c) = .next (State.resetWith c)

/-- The invariants hold after reset, under every configuration (10_state.md R47, 70_reset_and_hazards.md R301). -/
def Obligations.ResetMeetsTheInvariant : Prop :=
  (∀ c : Config, (State.resetWith c).Inv) ∧ State.reset.Inv

/-- Every step keeps the invariants: `VAL ≤ LOAD` (10_state.md R37), no stale update flag (60_exceptions.md R278), the
tick interrupt only with a slot (43_systick.md R201), no null handle, consistent sensor records (10_state.md R41), a
bounded distance (R43), lines enabled only once registered (70_reset_and_hazards.md R303), and a foreground whose wait
condition is not yet met, on a counter that runs (10_state.md R22, 44_ultrasonic.md R241). -/
def Obligations.StepKeepsTheInvariant : Prop :=
  ∀ s t : State, s.Inv → step s = .next t → t.Inv

/-- No step changes a parameter, clears an `inited` bit, `OVW` or an `EXTI_REG` bit, or empties a callback slot or a sensor
record (70_reset_and_hazards.md R302 (d); 10_state.md R25, R33, R34, R40, R41, R45). -/
def Obligations.StepNeverUndoesInitialisation : Prop :=
  ∀ s t : State, step s = .next t →
    t.cfg = s.cfg ∧
    (∀ n : Fin 4, (s.timers[n].inited = true → t.timers[n].inited = true) ∧
      (s.timers[n].slot.isSome = true → t.timers[n].slot.isSome = true)) ∧
    (s.st.inited = true → t.st.inited = true) ∧ (s.st.ovw = true → t.st.ovw = true) ∧
    (s.st.slot.isSome = true → t.st.slot.isSome = true) ∧
    (∀ i : Nat, (sensorAt i s).isSome = true → (sensorAt i t).isSome = true) ∧
    ∀ l : Fin 16, s.extiReg[l] = true → t.extiReg[l] = true

/-- The trace only grows: what was emitted stays, in order (10_state.md R24). -/
def Obligations.StepOnlyAppendsToTheTrace : Prop :=
  ∀ s t : State, step s = .next t → s.out <+: t.out

/-- An instruction touches no timer but the one its `sel` names, and a GPT instruction touches nothing of the ST and US
units (10_state.md R25). The premise rules out states between steps in which a wait condition already holds. -/
def Obligations.TimersAreIndependent : Prop :=
  ∀ (i : Instr) (s t : State), s.ForegroundSettled → exec i s = .next t →
    (∀ m : Fin 4, (∀ sel : Byte, gptTarget i = some sel → sel.toNat ≠ m.val) → t.timers[m] = s.timers[m]) ∧
    ∀ sel : Byte, gptTarget i = some sel →
      t.st = s.st ∧ t.sensors = s.sensors ∧ t.ses = s.ses ∧ t.extiEn = s.extiEn ∧ t.extiReg = s.extiReg

/-- A callback is invoked only inside a tick event, that is by a handler: no command and no edge emits a CALLBACK record
(30_encoding.md R97, 60_exceptions.md R282, R292). -/
def Obligations.CallbacksOnlyInTickEvents : Prop :=
  ∀ (i : Instr) (s t : State), i ≠ .stTick → (∀ n : Byte, i ≠ .gptTick n) → exec i s = .next t →
    ∀ x ∈ t.out.drop s.out.length, ∀ (u : TimerUnit) (k : Nat) (cb : Word), x ≠ .callback u k cb

/-- The measurement session moves only as the table of 44_ultrasonic.md R241 says: a read starts it, an edge moves it on,
the read timeout (which answers OUT_OF_RANGE) returns it to Idle, and nothing else changes it. -/
def Obligations.SessionFollowsItsTable : Prop :=
  ∀ (i : Instr) (s t : State), s.ForegroundSettled → exec i s = .next t →
    t.ses.state = s.ses.state ∨
    ((∃ id : Byte, i = .usReadDistance id) ∧ t.ses.state = .waitingForRisingEdge) ∨
    ((∃ l : Byte, i = .extiEdge l) ∧ s.ses.state = .waitingForRisingEdge ∧ t.ses.state = .waitingForFallingEdge) ∨
    ((∃ l : Byte, i = .extiEdge l) ∧ s.ses.state = .waitingForFallingEdge ∧ t.ses.state = .done) ∨
    (i = .stTick ∧ (∃ id : Nat, s.fg = .usPoll id) ∧ t.fg = .idle ∧ t.ses.state = .idle ∧
      t.out.getLast? = some (.response .ok 0xFFFFFFFF))

/-- `FgCheck()`, arm by arm (10_state.md R22): the busy-wait completion (41_gpt_interval.md R146), the delay segments and
their end (43_systick.md R204), the trigger phases (44_ultrasonic.md R237) and the poll check (R238). Two points are the
model's: where `VAL > LOAD`, which the invariant rules out, the poll clauses read `LOAD - VAL` as 0 (log 12), and a high
phase whose delay is out of range raises DelayRange after its record (log 15). -/
def Obligations.FgCheckArms : Prop :=
  ∀ s : State, s.fault = none →
    (s.fg = .idle → fgCheck s = s) ∧
    (∀ (n : Fin 4) (target : Half), s.fg = .gptWait n target →
      (s.timers[n].cnt ≠ target → fgCheck s = s) ∧
      (s.timers[n].cnt = target → fgCheck s =
        ({ s.putTimer n { s.timers[n] with
            cen := false, cnt := 0, arr := 0,
            arrSh := if s.timers[n].arpe then s.timers[n].arrSh else 0 } with fg := .idle }).answer .ok 0)) ∧
    (∀ (rest : List Ticks) (k : Continuation), s.fg = .stDelay rest k →
      (s.st.countflag = false → fgCheck s = s) ∧
      (s.st.countflag = true → ∀ (n : Ticks) (rest' : List Ticks), rest = n :: rest' → fgCheck s =
        { s.putSt { s.st with load := n, val := n, countflag := false } with fg := .stDelay rest' k }) ∧
      (s.st.countflag = true → rest = [] → k = .respond → fgCheck s =
        ({ s.putSt { s.st with enable := false, load := 0, val := 0, countflag := false } with
            fg := .idle }).answer .ok 0) ∧
      (∀ (i : Nat) (r : Sensor) (n : Ticks) (rest' : List Ticks),
        s.st.countflag = true → rest = [] → k = .usTrigHigh i → sensorAt i s = some r →
        segments (10 * ticksPerUs s.cfg s.st.clkDiv) = some (n :: rest') → fgCheck s =
          { s.putSt { s.st with enable := true, load := n, val := n, countflag := false } with
              fg := .stDelay rest' (.usTrigLow i),
              out := s.out ++ [.call (.gpioSetPinValue r.trigPort r.trigPin .high)] }) ∧
      (∀ (i : Nat) (r : Sensor),
        s.st.countflag = true → rest = [] → k = .usTrigHigh i → sensorAt i s = some r →
        segments (10 * ticksPerUs s.cfg s.st.clkDiv) = none → fgCheck s =
          ({ s.putSt { s.st with enable := false, load := 0, val := 0, countflag := false } with
              fg := .idle,
              out := s.out ++ [Record.call (.gpioSetPinValue r.trigPort r.trigPin .high)] }).raised .delayRange) ∧
      (∀ (i : Nat) (r : Sensor),
        s.st.countflag = true → rest = [] → k = .usTrigLow i → sensorAt i s = some r → s.ses.state ≠ .done →
        fgCheck s =
          { s.putSt { s.st with enable := true, load := 0xFFFFFF, val := 0xFFFFFF, countflag := false } with
              fg := .usPoll i,
              out := s.out ++ [.call (.gpioSetPinValue r.trigPort r.trigPin .low)] })) ∧
    (∀ (i : Nat) (r : Sensor), s.fg = .usPoll i → sensorAt i s = some r →
      (s.ses.state = .done → fgCheck s =
        ({ s with fg := .idle }).answer .ok (BitVec.ofNat 32 s.ses.distance)) ∧
      (s.ses.state ≠ .done → s.st.load.toNat - s.st.val.toNat ≤ r.timeout → fgCheck s = s) ∧
      (s.ses.state ≠ .done → r.timeout < s.st.load.toNat - s.st.val.toNat → fgCheck s =
        ({ s.putSt { s.st with enable := false } with
            fg := .idle, ses := { s.ses with state := .idle },
            extiEn := s.extiEn.set r.echoPin.toNat false r.echoPin.isLt,
            out := s.out ++ [Record.call (.extiDisableLine r.echoPin)] }).answer .ok 0xFFFFFFFF))

/-! ## GPT configuration -/

/-- GPT_INIT (40_gpt_config.md R111, R112): its checks in order, and its effects. -/
def Obligations.GptInitConfiguresTheTimer : Prop :=
  ∀ (s : State) (sel : Byte) (arr : Half) (unit dir : BitVec 2) (arpe uie : Bool) (ckd : BitVec 2), s.Ready →
    (4 ≤ sel.toNat → exec (.gptInit sel arr unit dir arpe uie ckd) s = .next (s.answer .failParam 0)) ∧
    (sel.toNat < 4 → dir = 3 ∨ ckd = 3 →
      exec (.gptInit sel arr unit dir arpe uie ckd) s = .next (s.answer .failParam 0)) ∧
    (sel.toNat < 4 → dir ≠ 3 → ckd ≠ 3 → 2 ≤ unit.toNat →
      exec (.gptInit sel arr unit dir arpe uie ckd) s = .next (s.answer .failConfig 0)) ∧
    ∀ (n : Fin 4) (d : CountDir) (k : ClockDivision) (divisor : Nat), sel.toNat = n.val →
      [CountDir.up, .down, .center][dir.toNat]? = some d →
      [ClockDivision.ckd0, .ckd1, .ckd2][ckd.toNat]? = some k →
      [1000000, 1000][unit.toNat]? = some divisor →
      (s.cfg.fPclk / divisor = 0 ∨ 65536 < s.cfg.fPclk / divisor →
        exec (.gptInit sel arr unit dir arpe uie ckd) s = .next (s.raised .prescalerRange)) ∧
      (1 ≤ s.cfg.fPclk / divisor → s.cfg.fPclk / divisor ≤ 65536 → uie = true → s.timers[n].uif = true →
        exec (.gptInit sel arr unit dir arpe uie ckd) s = .next (s.raised .staleUpdateFlag)) ∧
      (1 ≤ s.cfg.fPclk / divisor → s.cfg.fPclk / divisor ≤ 65536 → ¬(uie = true ∧ s.timers[n].uif = true) →
        exec (.gptInit sel arr unit dir arpe uie ckd) s =
          .next ((s.putTimer n { s.timers[n] with
            psc := BitVec.ofNat 16 (s.cfg.fPclk / divisor - 1), arr := arr,
            arrSh := if s.timers[n].arpe then s.timers[n].arrSh else arr,
            arpe := arpe, dir := d, ckd := k, uie := uie, inited := true }).answer .ok 0))

/-- GPT_ENABLE and GPT_DISABLE write `CEN` and nothing else (40_gpt_config.md R113, R114). -/
def Obligations.GptEnableAndDisableWriteCen : Prop :=
  ∀ (s : State) (sel : Byte), s.Ready →
    GptGuarded (.gptEnable sel) sel True s ∧ GptGuarded (.gptDisable sel) sel True s ∧
    ∀ n : Fin 4, sel.toNat = n.val → s.timers[n].inited = true →
      exec (.gptEnable sel) s = .next ((s.putTimer n { s.timers[n] with cen := true }).answer .ok 0) ∧
      exec (.gptDisable sel) s = .next ((s.putTimer n { s.timers[n] with cen := false }).answer .ok 0)

/-- GPT_SET_PRESCALER and GPT_SET_PERIOD accept every 16-bit value; a period reaches the shadow at once where ARPE is 0
(40_gpt_config.md R115, R116; 10_state.md R30). -/
def Obligations.GptSetPrescalerAndPeriod : Prop :=
  ∀ (s : State) (sel : Byte) (v : Half), s.Ready →
    GptGuarded (.gptSetPrescaler sel v) sel True s ∧ GptGuarded (.gptSetPeriod sel v) sel True s ∧
    ∀ n : Fin 4, sel.toNat = n.val → s.timers[n].inited = true →
      exec (.gptSetPrescaler sel v) s = .next ((s.putTimer n { s.timers[n] with psc := v }).answer .ok 0) ∧
      exec (.gptSetPeriod sel v) s =
        .next ((s.putTimer n { s.timers[n] with
          arr := v, arrSh := if s.timers[n].arpe then s.timers[n].arrSh else v }).answer .ok 0)

/-- GPT_SET_COUNT_DIRECTION: 0 Up, 1 Down, 2 Center, every other 16-bit value FAIL_PARAM (40_gpt_config.md R117). -/
def Obligations.GptSetCountDirectionWritesDir : Prop :=
  ∀ (s : State) (sel : Byte) (dir : Half), s.Ready →
    GptGuarded (.gptSetCountDirection sel dir) sel (dir.toNat < 3) s ∧
    ∀ (n : Fin 4) (d : CountDir), sel.toNat = n.val → s.timers[n].inited = true →
      [CountDir.up, .down, .center][dir.toNat]? = some d →
      exec (.gptSetCountDirection sel dir) s = .next ((s.putTimer n { s.timers[n] with dir := d }).answer .ok 0)

/-- GPT_SET_ARR_BUFFER writes `ARPE` and neither `ARR` nor its shadow (40_gpt_config.md R118). -/
def Obligations.GptSetArrBufferWritesArpe : Prop :=
  ∀ (s : State) (sel : Byte) (on : Half), s.Ready →
    GptGuarded (.gptSetArrBuffer sel on) sel (on.toNat < 2) s ∧
    ∀ n : Fin 4, sel.toNat = n.val → s.timers[n].inited = true →
      (on = 0 → exec (.gptSetArrBuffer sel on) s =
        .next ((s.putTimer n { s.timers[n] with arpe := false }).answer .ok 0)) ∧
      (on = 1 → exec (.gptSetArrBuffer sel on) s =
        .next ((s.putTimer n { s.timers[n] with arpe := true }).answer .ok 0))

/-- GPT_SET_INTERRUPT writes `UIE`; enabling it on a standing update flag raises StaleUpdateFlag (40_gpt_config.md R119,
60_exceptions.md R278). -/
def Obligations.GptSetInterruptWritesUie : Prop :=
  ∀ (s : State) (sel : Byte) (on : Half), s.Ready →
    GptGuarded (.gptSetInterrupt sel on) sel (on.toNat < 2) s ∧
    ∀ n : Fin 4, sel.toNat = n.val → s.timers[n].inited = true →
      (on = 0 → exec (.gptSetInterrupt sel on) s =
        .next ((s.putTimer n { s.timers[n] with uie := false }).answer .ok 0)) ∧
      (on = 1 → s.timers[n].uif = true →
        exec (.gptSetInterrupt sel on) s = .next (s.raised .staleUpdateFlag)) ∧
      (on = 1 → s.timers[n].uif = false → exec (.gptSetInterrupt sel on) s =
        .next ((s.putTimer n { s.timers[n] with uie := true }).answer .ok 0))

/-- GPT_GET_REMAINING_TIME and GPT_GET_COUNTER_VALUE answer and write nothing (40_gpt_config.md R120, R121). -/
def Obligations.GptReadsAnswerAndWriteNothing : Prop :=
  ∀ (s : State) (sel : Byte), s.Ready →
    GptGuarded (.gptGetRemainingTime sel) sel True s ∧ GptGuarded (.gptGetCounterValue sel) sel True s ∧
    ∀ n : Fin 4, sel.toNat = n.val → s.timers[n].inited = true →
      exec (.gptGetCounterValue sel) s = .next (s.answer .ok (BitVec.ofNat 32 s.timers[n].cnt.toNat)) ∧
      (s.timers[n].dir = .up → s.timers[n].cnt ≤ s.timers[n].arr →
        exec (.gptGetRemainingTime sel) s =
          .next (s.answer .ok (BitVec.ofNat 32 (s.timers[n].arr.toNat - s.timers[n].cnt.toNat)))) ∧
      (s.timers[n].dir = .up → s.timers[n].arr < s.timers[n].cnt →
        exec (.gptGetRemainingTime sel) s = .next (s.raised .remainingUndefined)) ∧
      (s.timers[n].dir = .down →
        exec (.gptGetRemainingTime sel) s = .next (s.answer .ok (BitVec.ofNat 32 s.timers[n].cnt.toNat))) ∧
      (s.timers[n].dir = .center → exec (.gptGetRemainingTime sel) s = .next (s.raised .centerAligned))

/-! ## GPT counting, waiting and intervals -/

/-- GPT_TICK between expiries, and its faults (41_gpt_interval.md R141). -/
def Obligations.GptTickCounts : Prop :=
  ∀ (s : State) (sel : Byte) (n : Fin 4), s.Live → sel.toNat = n.val →
    (s.timers[n].cen = false → exec (.gptTick sel) s = .next (fgCheck s)) ∧
    (s.timers[n].cen = true → s.timers[n].dir = .center →
      exec (.gptTick sel) s = .next (s.raised .centerAligned)) ∧
    (s.timers[n].cen = true → s.timers[n].dir ≠ .center → s.timers[n].arrSh = 0 →
      exec (.gptTick sel) s = .next (s.raised .zeroReloadCount)) ∧
    (s.timers[n].cen = true → s.timers[n].dir = .up → s.timers[n].arrSh ≠ 0 →
      s.timers[n].arrSh < s.timers[n].cnt →
      exec (.gptTick sel) s = .next (s.raised .counterAboveReload)) ∧
    (s.timers[n].cen = true → s.timers[n].dir = .up → s.timers[n].cnt < s.timers[n].arrSh →
      exec (.gptTick sel) s =
        .next (fgCheck (s.putTimer n { s.timers[n] with cnt := s.timers[n].cnt + 1 }))) ∧
    (s.timers[n].cen = true → s.timers[n].dir = .down → s.timers[n].arrSh ≠ 0 → s.timers[n].cnt ≠ 0 →
      exec (.gptTick sel) s =
        .next (fgCheck (s.putTimer n { s.timers[n] with cnt := s.timers[n].cnt - 1 })))

/-- GPT_TICK at an expiry, up or down: the update event and the interrupt handler it enters (41_gpt_interval.md R141, R143,
R144; 60_exceptions.md R282). The shadow loads the reload; only while a busy-wait on the timer runs whose target lies above
the shadow may it stay as it is (70_reset_and_hazards.md R316, R319; a free value of the model, log 22). That the counter,
the flag and the shadow are written although NoCallback is then raised is the model's reading (log 10). -/
def Obligations.GptTickExpires : Prop :=
  ∀ (s : State) (sel : Byte) (n : Fin 4) (wrapped : Half), s.Live → sel.toNat = n.val →
    s.timers[n].cen = true → s.timers[n].arrSh ≠ 0 →
    (s.timers[n].dir = .up ∧ s.timers[n].cnt = s.timers[n].arrSh ∧ wrapped = 0) ∨
      (s.timers[n].dir = .down ∧ s.timers[n].cnt = 0 ∧ wrapped = s.timers[n].arrSh) →
    ∃ shadow : Half,
      (shadow = s.timers[n].arr ∨
        (shadow = s.timers[n].arrSh ∧ ∃ target : Half, s.fg = .gptWait n target ∧ s.timers[n].arrSh < target)) ∧
      (s.timers[n].uie = false → exec (.gptTick sel) s =
        .next (fgCheck (s.putTimer n { s.timers[n] with cnt := wrapped, uif := true, arrSh := shadow }))) ∧
      (s.timers[n].uie = true → s.timers[n].slot = none → exec (.gptTick sel) s =
        .next ((s.putTimer n { s.timers[n] with cnt := wrapped, uif := true, arrSh := shadow }).raised .noCallback)) ∧
      (∀ cb : Word, s.timers[n].uie = true → s.timers[n].slot = some { mode := .singleShot, cb := cb } →
        exec (.gptTick sel) s =
          .next (fgCheck { s.putTimer n { s.timers[n] with
              cnt := wrapped, uif := false, uie := false, cen := false, arr := 0,
              arrSh := if s.timers[n].arpe then shadow else 0 } with
            out := s.out ++ [.callback .gpt n.val cb] })) ∧
      (∀ cb : Word, s.timers[n].uie = true → s.timers[n].slot = some { mode := .periodic, cb := cb } →
        exec (.gptTick sel) s =
          .next (fgCheck { s.putTimer n { s.timers[n] with cnt := wrapped, uif := false, arrSh := shadow } with
            out := s.out ++ [.callback .gpt n.val cb] }))

/-- The issue step of GPT_BUSY_WAIT: it waits for `P - 1`, or completes at once where the counter already shows it
(41_gpt_interval.md R140, R145, R146). -/
def Obligations.GptBusyWaitIssue : Prop :=
  ∀ (s : State) (sel : Byte) (tickType : Half) (ticks : Word), s.Ready →
    GptGuarded (.gptBusyWait sel tickType ticks) sel (tickType ∈ s.cfg.tickTypes) s ∧
    ∀ (n : Fin 4) (p : Nat), sel.toNat = n.val → tickType ∈ s.cfg.tickTypes → s.timers[n].inited = true →
      p = ticks.toNat * tickType.toNat →
      (p = 0 ∨ 65535 < p → exec (.gptBusyWait sel tickType ticks) s = .next (s.raised .reloadRange)) ∧
      (1 ≤ p → p ≤ 65535 → s.timers[n].cnt.toNat ≠ p - 1 →
        exec (.gptBusyWait sel tickType ticks) s =
          .next { s.putTimer n { s.timers[n] with
              arr := BitVec.ofNat 16 p,
              arrSh := if s.timers[n].arpe then s.timers[n].arrSh else BitVec.ofNat 16 p,
              uie := false, cen := true } with fg := .gptWait n (BitVec.ofNat 16 (p - 1)) }) ∧
      (1 ≤ p → p ≤ 65535 → s.timers[n].cnt.toNat = p - 1 →
        exec (.gptBusyWait sel tickType ticks) s =
          .next ((s.putTimer n { s.timers[n] with
              arr := 0, arrSh := if s.timers[n].arpe then s.timers[n].arrSh else 0,
              uie := false, cen := false, cnt := 0 }).answer .ok 0))

/-- GPT_SET_INTERVAL_SINGLE and GPT_SET_INTERVAL_PERIODIC: the same checks and effects but for the mode stored
(41_gpt_interval.md R140, R147, R148). -/
def Obligations.GptSetIntervalArmsTheTimer : Prop :=
  ∀ (s : State) (sel : Byte) (tickType : Half) (ticks cb : Word) (mode : IntervalMode) (i : Instr), s.Ready →
    (mode = .singleShot ∧ i = .gptSetIntervalSingle sel tickType ticks cb) ∨
      (mode = .periodic ∧ i = .gptSetIntervalPeriodic sel tickType ticks cb) →
    GptGuarded i sel (tickType ∈ s.cfg.tickTypes ∧ cb ≠ 0) s ∧
    ∀ (n : Fin 4) (p : Nat), sel.toNat = n.val → tickType ∈ s.cfg.tickTypes → cb ≠ 0 →
      s.timers[n].inited = true → p = ticks.toNat * tickType.toNat →
      (p = 0 ∨ 65535 < p → exec i s = .next (s.raised .reloadRange)) ∧
      (1 ≤ p → p ≤ 65535 → s.timers[n].uif = true → exec i s = .next (s.raised .staleUpdateFlag)) ∧
      (1 ≤ p → p ≤ 65535 → s.timers[n].uif = false → exec i s =
        .next ((s.putTimer n { s.timers[n] with
          arr := BitVec.ofNat 16 p, arrSh := if s.timers[n].arpe then s.timers[n].arrSh else BitVec.ofNat 16 p,
          uie := true, cen := true, slot := some { mode := mode, cb := cb } }).answer .ok 0))

/-- A busy-wait of product `P` on an unbuffered up-counter that shows 0 answers on exactly the tick numbered `P - 1`, with
nothing emitted before, and leaves the counter and the reload cleared (41_gpt_interval.md R145, R146;
70_reset_and_hazards.md R323). On a buffered timer whose old shadow lies below the target the first period is governed by
the old shadow, and the wait either never answers, however many ticks follow, as 70_reset_and_hazards.md R316 (up) and
R319 (down, from a start value below the target) say, or answers on exactly the tick on which the reload that
41_gpt_interval.md R143 loads brings the counter to `P - 1`: the model leaves open which (log 22). Other starting counts:
GptBusyWaitIssue, GptTickCounts and GptTickExpires, tick by tick. -/
def Obligations.BusyWaitLastsOneTickLessThanItsProduct : Prop :=
  ∀ (s : State) (sel : Byte) (tickType : Half) (ticks : Word) (n : Fin 4) (p : Nat), s.Ready →
    sel.toNat = n.val → tickType ∈ s.cfg.tickTypes → p = ticks.toNat * tickType.toNat → 1 ≤ p → p ≤ 65535 →
    s.timers[n].inited = true →
    (s.timers[n].dir = .up → s.timers[n].arpe = false → s.timers[n].cnt = 0 →
      ∃ t : State, exec (.gptBusyWait sel tickType ticks) s = .next t ∧
        (∀ k : Nat, k < p - 1 → ∃ u : State, execTimes (.gptTick sel) k t = .next u ∧
          u.fg = .gptWait n (BitVec.ofNat 16 (p - 1)) ∧ u.out = s.out ∧ u.timers[n].cnt.toNat = k) ∧
        execTimes (.gptTick sel) (p - 1) t =
          .next ((s.putTimer n { s.timers[n] with
            arr := 0, arrSh := 0, uie := false, cen := false, cnt := 0 }).answer .ok 0)) ∧
    ∀ (old last : Nat), s.timers[n].arpe = true → s.timers[n].arrSh.toNat = old → 1 ≤ old → old < p - 1 →
      (s.timers[n].dir = .up ∧ s.timers[n].cnt = 0 ∧ last = old + p) ∨
        (s.timers[n].dir = .down ∧ s.timers[n].cnt.toNat < p - 1 ∧ last = s.timers[n].cnt.toNat + old + 3) →
      ∃ t : State, exec (.gptBusyWait sel tickType ticks) s = .next t ∧
        (∀ k : Nat, k < last → ∃ u : State, execTimes (.gptTick sel) k t = .next u ∧
          u.fg = .gptWait n (BitVec.ofNat 16 (p - 1)) ∧ u.out = s.out) ∧
        ((∀ k : Nat, ∃ u : State, execTimes (.gptTick sel) k t = .next u ∧
            u.fg = .gptWait n (BitVec.ofNat 16 (p - 1)) ∧ u.out = s.out) ∨
          execTimes (.gptTick sel) last t =
            .next ((s.putTimer n { s.timers[n] with
              arr := 0, arrSh := BitVec.ofNat 16 p, uif := true, uie := false, cen := false, cnt := 0 }).answer .ok 0))

/-- A single-shot interval of product `P` on an unbuffered up-counter that shows 0 invokes its callback on the tick
numbered `P + 1`, not before, and never again however many ticks follow (41_gpt_interval.md R147, R150 (a);
70_reset_and_hazards.md R323). A buffered or down-counting timer and other starting counts: GptTickCounts and
GptTickExpires, tick by tick. -/
def Obligations.SingleShotFiresExactlyOnce : Prop :=
  ∀ (s : State) (sel : Byte) (tickType : Half) (ticks cb : Word) (n : Fin 4) (p : Nat), s.Ready →
    sel.toNat = n.val → tickType ∈ s.cfg.tickTypes → cb ≠ 0 → p = ticks.toNat * tickType.toNat → 1 ≤ p → p ≤ 65535 →
    s.timers[n].inited = true → s.timers[n].dir = .up → s.timers[n].arpe = false → s.timers[n].cnt = 0 →
    s.timers[n].uif = false →
    ∃ t : State, exec (.gptSetIntervalSingle sel tickType ticks cb) s = .next t ∧
      (∀ k : Nat, k ≤ p → ∃ u : State, execTimes (.gptTick sel) k t = .next u ∧ u.out = t.out) ∧
      ∀ k : Nat, execTimes (.gptTick sel) (p + 1 + k) t =
        .next { s.putTimer n { s.timers[n] with
            arr := 0, arrSh := 0, uie := false, cen := false, cnt := 0,
            slot := some { mode := .singleShot, cb := cb } } with
          out := s.out ++ [.response .ok 0, .callback .gpt n.val cb] }

/-- A periodic interval of product `P` on an unbuffered up-counter that shows 0 invokes its callback on the ticks numbered
`P + 1`, `2 (P + 1)`, `3 (P + 1)` and so on, and on no other (41_gpt_interval.md R148, R150 (b);
70_reset_and_hazards.md R323). A buffered or down-counting timer and other starting counts: GptTickCounts and
GptTickExpires, tick by tick. -/
def Obligations.PeriodicFiresEveryPeriod : Prop :=
  ∀ (s : State) (sel : Byte) (tickType : Half) (ticks cb : Word) (n : Fin 4) (p : Nat), s.Ready →
    sel.toNat = n.val → tickType ∈ s.cfg.tickTypes → cb ≠ 0 → p = ticks.toNat * tickType.toNat → 1 ≤ p → p ≤ 65535 →
    s.timers[n].inited = true → s.timers[n].dir = .up → s.timers[n].arpe = false → s.timers[n].cnt = 0 →
    s.timers[n].uif = false →
    ∃ t : State, exec (.gptSetIntervalPeriodic sel tickType ticks cb) s = .next t ∧ t.out = s.out ++ [.response .ok 0] ∧
      ∀ (m k : Nat), k ≤ p → execTimes (.gptTick sel) (m * (p + 1) + k) t =
        .next { t.putTimer n { t.timers[n] with cnt := BitVec.ofNat 16 k } with
          out := t.out ++ List.replicate m (.callback .gpt n.val cb) }

/-! ## PWM -/

/-- GPT_PWM_INIT programs the compare mode, enables buffering and the counter, and forces an update that sets no flag;
`PSC`, `CCE` and `CCP` take values of which nothing is said; the other channels stay (42_gpt_pwm.md R170). -/
def Obligations.GptPwmInitForcesAnUpdate : Prop :=
  ∀ (s : State) (sel : Byte) (arr : Half) (channel mode : Byte) (freq : Word), s.Ready →
    GptGuarded (.gptPwmInit sel arr channel mode freq) sel
      (1 ≤ channel.toNat ∧ channel.toNat ≤ 4 ∧ mode.toNat ≤ 1) s ∧
    ∀ (n c : Fin 4) (m : CompareMode), sel.toNat = n.val → channel.toNat = c.val + 1 →
      [CompareMode.pwmA, .pwmB][mode.toNat]? = some m → s.timers[n].inited = true →
      (s.timers[n].uie = true →
        exec (.gptPwmInit sel arr channel mode freq) s = .next (s.raised .forcedUpdateWithUie)) ∧
      (s.timers[n].uie = false → ∃ (psc : Half) (cce ccp : Bool) (drawn : Nat),
        exec (.gptPwmInit sel arr channel mode freq) s =
          .next ({ s.putTimer n ({ s.timers[n] with
              arr := arr, arrSh := arr, cnt := 0, arpe := true, cen := true, psc := psc }.putChannel c
                { s.timers[n].channels[c] with ocm := m, cce := cce, ccp := ccp }) with
            drawCount := drawn }.answer .ok 0))

/-- GPT_SET_DUTY_CYCLE writes `(ARR × pct) div 100` into the channel's compare register and nothing else
(42_gpt_pwm.md R171). -/
def Obligations.GptSetDutyCycleWritesCompare : Prop :=
  ∀ (s : State) (sel channel percent : Byte), s.Ready →
    GptGuarded (.gptSetDutyCycle sel channel percent) sel
      (1 ≤ channel.toNat ∧ channel.toNat ≤ 4 ∧ percent.toNat ≤ 100) s ∧
    ∀ n c : Fin 4, sel.toNat = n.val → channel.toNat = c.val + 1 → percent.toNat ≤ 100 →
      s.timers[n].inited = true →
      exec (.gptSetDutyCycle sel channel percent) s =
        .next ((s.putTimer n (s.timers[n].putChannel c { s.timers[n].channels[c] with
          ccr := BitVec.ofNat 16 (s.timers[n].arr.toNat * percent.toNat / 100) })).answer .ok 0)

/-- A duty of 0 per cent gives compare value 0, 100 per cent gives the reload value, and the compare value never exceeds
the reload and is monotonic in the percentage (42_gpt_pwm.md R171). -/
def Obligations.CompareValueIsMonotonic : Prop :=
  ∀ arr : Half, compareValue arr 0 = 0 ∧ compareValue arr 100 = arr ∧
    ∀ p q : Nat, p ≤ q → q ≤ 100 → compareValue arr p ≤ compareValue arr q ∧ compareValue arr q ≤ arr

/-- GPT_PWM_DEINIT clears the channel's mode, enable and polarity and leaves everything else (42_gpt_pwm.md R172). -/
def Obligations.GptPwmDeinitClearsTheChannel : Prop :=
  ∀ (s : State) (sel : Byte) (channel : Half), s.Ready →
    GptGuarded (.gptPwmDeinit sel channel) sel (1 ≤ channel.toNat ∧ channel.toNat ≤ 4) s ∧
    ∀ n c : Fin 4, sel.toNat = n.val → channel.toNat = c.val + 1 → s.timers[n].inited = true →
      exec (.gptPwmDeinit sel channel) s =
        .next ((s.putTimer n (s.timers[n].putChannel c { s.timers[n].channels[c] with
          ocm := .off, cce := false, ccp := false })).answer .ok 0)

/-! ## SysTick -/

/-- ST_INIT and ST_INIT_RELOAD stop and disarm SysTick, write the divider and the registers, and keep the slot and `OVW`;
a bad reload is answered before a bad clock source (43_systick.md R192, R193). -/
def Obligations.StInitStopsAndProgramsSysTick : Prop :=
  ∀ (s : State) (clk : Half) (reload : Word), s.Ready →
    (2 ≤ clk.toNat → exec (.stInit clk) s = .next (s.answer .failConfig 0)) ∧
    (16777215 < reload.toNat → exec (.stInitReload clk reload) s = .next (s.answer .failParam 0)) ∧
    (reload.toNat ≤ 16777215 → 2 ≤ clk.toNat → exec (.stInitReload clk reload) s = .next (s.answer .failConfig 0)) ∧
    ∀ d : ClkDiv, [ClkDiv.div1, .div8][clk.toNat]? = some d →
      exec (.stInit clk) s =
        .next ((s.putSt { s.st with
          inited := true, enable := false, tickint := false, clkDiv := d, countflag := false,
          load := 0, val := 0 }).answer .ok 0) ∧
      (reload.toNat ≤ 16777215 → exec (.stInitReload clk reload) s =
        .next ((s.putSt { s.st with
          inited := true, enable := false, tickint := false, clkDiv := d, countflag := false,
          load := BitVec.ofNat 24 reload.toNat, val := BitVec.ofNat 24 reload.toNat }).answer .ok 0))

/-- ST_SET_RELOAD programs both registers and clears the flag; ENABLE is untouched (43_systick.md R194, 10_state.md
R38). -/
def Obligations.StSetReloadProgramsBothRegisters : Prop :=
  ∀ (s : State) (reload : Word), s.Ready →
    StGuarded (.stSetReload reload) (reload.toNat ≤ 16777215) s ∧
    (reload.toNat ≤ 16777215 → s.st.inited = true → exec (.stSetReload reload) s =
      .next ((s.putSt { s.st with
        load := BitVec.ofNat 24 reload.toNat, val := BitVec.ofNat 24 reload.toNat,
        countflag := false }).answer .ok 0))

/-- ST_START and ST_STOP write ENABLE, ST_RESET clears LOAD, VAL and the flag; each nothing else (43_systick.md R195, R196,
R197). -/
def Obligations.StStartStopAndReset : Prop :=
  ∀ s : State, s.Ready →
    StGuarded .stStart True s ∧ StGuarded .stStop True s ∧ StGuarded .stReset True s ∧
    (s.st.inited = true →
      exec .stStart s = .next ((s.putSt { s.st with enable := true }).answer .ok 0) ∧
      exec .stStop s = .next ((s.putSt { s.st with enable := false }).answer .ok 0) ∧
      exec .stReset s = .next ((s.putSt { s.st with load := 0, val := 0, countflag := false }).answer .ok 0))

/-- ST_GET_REMAINING answers VAL, ST_GET_ELAPSED answers LOAD - VAL, and neither writes state (43_systick.md R198, R199).
The premise `VAL ≤ LOAD` is the invariant of 10_state.md R37. -/
def Obligations.StReadsAnswerAndWriteNothing : Prop :=
  ∀ s : State, s.Ready →
    StGuarded .stGetRemaining True s ∧ StGuarded .stGetElapsed True s ∧
    (s.st.inited = true →
      exec .stGetRemaining s = .next (s.answer .ok (BitVec.ofNat 32 s.st.val.toNat)) ∧
      (s.st.val ≤ s.st.load → ∃ e : Nat, e + s.st.val.toNat = s.st.load.toNat ∧
        exec .stGetElapsed s = .next (s.answer .ok (BitVec.ofNat 32 e))))

/-- ST_TICK: down-count, flag on reaching 0, reload without flag at 0, and the interrupt handler where TICKINT is set
(43_systick.md R200, R201). That VAL and the flag are written although NoCallback is then raised is the model's reading
(log 10). -/
def Obligations.StTickCountsDown : Prop :=
  ∀ s : State, s.Live →
    (s.st.enable = false → exec .stTick s = .next (fgCheck s)) ∧
    (s.st.enable = true → s.st.val = 0 →
      exec .stTick s = .next (fgCheck (s.putSt { s.st with val := s.st.load }))) ∧
    (s.st.enable = true → 1 < s.st.val.toNat →
      exec .stTick s = .next (fgCheck (s.putSt { s.st with val := s.st.val - 1 }))) ∧
    (s.st.enable = true → s.st.val = 1 → s.st.tickint = false →
      exec .stTick s = .next (fgCheck (s.putSt { s.st with val := 0, countflag := true }))) ∧
    (s.st.enable = true → s.st.val = 1 → s.st.tickint = true → s.st.slot = none →
      exec .stTick s = .next ((s.putSt { s.st with val := 0, countflag := true }).raised .noCallback)) ∧
    (∀ cb : Word, s.st.enable = true → s.st.val = 1 → s.st.tickint = true →
      s.st.slot = some { mode := .singleShot, cb := cb } → exec .stTick s =
        .next (fgCheck { s.putSt { s.st with
            tickint := false, enable := false, load := 0, val := 0, countflag := false } with
          out := s.out ++ [.callback .st 0 cb] })) ∧
    (∀ cb : Word, s.st.enable = true → s.st.val = 1 → s.st.tickint = true →
      s.st.slot = some { mode := .periodic, cb := cb } → exec .stTick s =
        .next (fgCheck { s.putSt { s.st with val := 0, countflag := false } with
          out := s.out ++ [.callback .st 0 cb] }))

/-- The segments of a delay of `T` ticks: undefined for 0 and from 4 294 967 296 on; otherwise each segment is between 1 and
`ST_MAX_RELOAD`, they sum to `T`, their number is `⌈T / ST_MAX_RELOAD⌉` and at most 257, and the full ones come last
(43_systick.md R202, R207 (a), (b), (c), (e)). -/
def Obligations.SegmentsSplitADelay : Prop :=
  ∀ t : Nat,
    (segments t = none ↔ t = 0 ∨ 4294967296 ≤ t) ∧
    ∀ l : List Ticks, segments t = some l →
      (∀ x ∈ l, 1 ≤ x.toNat ∧ x.toNat ≤ 16777215) ∧ (l.map BitVec.toNat).sum = t ∧
      t ≤ 16777215 * l.length ∧ 16777215 * l.length < t + 16777215 ∧ l.length ≤ 257 ∧ ∀ x ∈ l.tail, x.toNat = 16777215

/-- The issue step of ST_DELAY_US and ST_DELAY_MS: the contention guard, the range, the first segment programmed
(43_systick.md R191, R203, R205, R206, R213). -/
def Obligations.StDelayIssue : Prop :=
  ∀ (s : State) (v : Word) (i : Instr) (t : Nat), s.Ready →
    (i = .stDelayUs v ∧ t = v.toNat * ticksPerUs s.cfg s.st.clkDiv) ∨
      (i = .stDelayMs v ∧ t = v.toNat * ticksPerMs s.cfg s.st.clkDiv) →
    StGuarded i True s ∧
    (s.st.inited = true →
      (s.st.tickint = true → s.st.slot.isSome = true → exec i s = .next (s.raised .sysTickContention)) ∧
      (¬(s.st.tickint = true ∧ s.st.slot.isSome = true) → segments t = none →
        exec i s = .next (s.raised .delayRange)) ∧
      (∀ (n : Ticks) (rest : List Ticks), ¬(s.st.tickint = true ∧ s.st.slot.isSome = true) →
        segments t = some (n :: rest) → exec i s =
          .next { s.putSt { s.st with enable := true, load := n, val := n, countflag := false } with
            fg := .stDelay rest .respond }))

/-- The tick conversions are exact under a well-formed configuration: `div` times 1 000 000 (or 1 000) times the factor is
`F_AHB` (00_scope.md R9, R11). -/
def Obligations.TickConversionsAreExact : Prop :=
  ∀ (c : Config) (d : ClkDiv) (k : Nat), wellFormedConfig c = true → (d = .div1 ∧ k = 1) ∨ (d = .div8 ∧ k = 8) →
    ticksPerUs c d * (k * 1000000) = c.fAhb ∧ ticksPerMs c d * (k * 1000) = c.fAhb ∧
    ticksPerMs c d = 1000 * ticksPerUs c d

/-- A delay of `T` ticks answers on exactly the tick numbered `T` and not before, however many segments it takes, and
leaves SysTick stopped and reset (43_systick.md R204, R205, R206, R207 (d)). The premise on TICKINT holds whenever no
interval is armed, by the model's invariant. -/
def Obligations.DelayLastsExactlyItsTicks : Prop :=
  ∀ (s : State) (v : Word) (i : Instr) (t : Nat), s.Ready →
    (i = .stDelayUs v ∧ t = v.toNat * ticksPerUs s.cfg s.st.clkDiv) ∨
      (i = .stDelayMs v ∧ t = v.toNat * ticksPerMs s.cfg s.st.clkDiv) →
    s.st.inited = true → s.st.tickint = false → 1 ≤ t → t < 4294967296 →
    ∃ u : State, exec i s = .next u ∧
      (∀ k : Nat, k < t → ∃ x : State, execTimes .stTick k u = .next x ∧ x.fg ≠ .idle ∧ x.out = s.out) ∧
      execTimes .stTick t u =
        .next ((s.putSt { s.st with enable := false, load := 0, val := 0, countflag := false }).answer .ok 0)

/-- ST_SET_INTERVAL_SINGLE and ST_SET_INTERVAL_PERIODIC: the checks, and the arming that overwrites whatever interval
stood and records the contention in `OVW` (43_systick.md R191, R208, R209, R212, R214). -/
def Obligations.StSetIntervalArmsSysTick : Prop :=
  ∀ (s : State) (us cb : Word) (mode : IntervalMode) (i : Instr) (t : Nat), s.Ready →
    (mode = .singleShot ∧ i = .stSetIntervalSingle us cb) ∨ (mode = .periodic ∧ i = .stSetIntervalPeriodic us cb) →
    t = us.toNat * ticksPerUs s.cfg s.st.clkDiv →
    StGuarded i (cb ≠ 0) s ∧
    (cb ≠ 0 → s.st.inited = true →
      (t = 0 ∨ 16777215 < t → exec i s = .next (s.raised .reloadRange)) ∧
      (1 ≤ t → t ≤ 16777215 → exec i s =
        .next ((s.putSt { s.st with
          ovw := s.st.ovw || (s.st.tickint && s.st.slot.isSome), slot := some { mode := mode, cb := cb },
          load := BitVec.ofNat 24 t, val := BitVec.ofNat 24 t, countflag := false, tickint := true,
          enable := true }).answer .ok 0)))

/-- A periodic SysTick interval of `T` ticks invokes its callback on the ticks numbered `T`, `2T + 1`, `3T + 2` and so on,
and on no other (43_systick.md R209). -/
def Obligations.StPeriodicFiresOnItsTicks : Prop :=
  ∀ (s : State) (us cb : Word) (t : Nat), s.Ready → s.st.inited = true → cb ≠ 0 →
    t = us.toNat * ticksPerUs s.cfg s.st.clkDiv → 1 ≤ t → t ≤ 16777215 →
    ∃ u : State, exec (.stSetIntervalPeriodic us cb) s = .next u ∧ u.out = s.out ++ [.response .ok 0] ∧
      (∀ k : Nat, k < t → ∃ x : State, execTimes .stTick k u = .next x ∧ x.out = u.out) ∧
      ∀ (m k : Nat), k ≤ t → ∃ x : State, execTimes .stTick (t + m * (t + 1) + k) u = .next x ∧
        x.out = u.out ++ List.replicate (m + 1) (.callback .st 0 cb) ∧ x.st.enable = true ∧ x.st.tickint = true

/-- A single-shot SysTick interval of `T` ticks invokes its callback on the tick numbered `T`, not before and never again,
and leaves SysTick disarmed and stopped (43_systick.md R208). -/
def Obligations.StSingleShotFiresOnItsTick : Prop :=
  ∀ (s : State) (us cb : Word) (t : Nat), s.Ready → s.st.inited = true → cb ≠ 0 →
    t = us.toNat * ticksPerUs s.cfg s.st.clkDiv → 1 ≤ t → t ≤ 16777215 →
    ∃ u : State, exec (.stSetIntervalSingle us cb) s = .next u ∧
      (∀ k : Nat, k < t → ∃ x : State, execTimes .stTick k u = .next x ∧ x.out = u.out) ∧
      ∀ k : Nat, execTimes .stTick (t + k) u =
        .next { u.putSt { u.st with tickint := false, enable := false, load := 0, val := 0, countflag := false } with
          out := s.out ++ [.response .ok 0, .callback .st 0 cb] }

/-! ## Ultrasonic -/

/-- `Timeout(cm)` is `(cm × 58842) div 1000 + 1`: the values the rule lists, at least 1, strictly increasing
(44_ultrasonic.md R231). -/
def Obligations.TimeoutIsStrictlyIncreasing : Prop :=
  (∀ cm : Half, timeoutTicks cm = cm.toNat * 58842 / 1000 + 1 ∧ 1 ≤ timeoutTicks cm ∧ timeoutTicks cm ≤ 3856211) ∧
  (timeoutTicks 0 = 1 ∧ timeoutTicks 1 = 59 ∧ timeoutTicks 2 = 118 ∧ timeoutTicks 50 = 2943 ∧
    timeoutTicks 100 = 5885 ∧ timeoutTicks 400 = 23537 ∧ timeoutTicks 500 = 29422 ∧ timeoutTicks 1000 = 58843 ∧
    timeoutTicks 65535 = 3856211) ∧
  ∀ a b : Half, a.toNat < b.toNat → timeoutTicks a < timeoutTicks b

/-- Seven vectors serve the sixteen lines (44_ultrasonic.md R233). -/
def Obligations.VectorServesItsLines : Prop :=
  ∀ pin : Nibble,
    (pin.toNat ≤ 4 → [IrqVector.exti0, .exti1, .exti2, .exti3, .exti4][pin.toNat]? = some (irqVector pin)) ∧
    (5 ≤ pin.toNat → pin.toNat ≤ 9 → irqVector pin = .exti9_5) ∧ (10 ≤ pin.toNat → irqVector pin = .exti15_10)

/-- US_INIT: its checks, the record, the eight calls in order, the registered line and SysTick initialised with the
configured divider (44_ultrasonic.md R234). -/
def Obligations.UsInitStoresAndRegisters : Prop :=
  ∀ (s : State) (id : Byte) (range : Half) (ep eport tp tport : Nibble), s.Ready →
    (s.cfg.usCapacity ≤ id.toNat →
      exec (.usInit id range ep eport tp tport) s = .next (s.answer .failParam 0)) ∧
    (id.toNat < s.cfg.usCapacity → s.st.tickint = true → s.st.slot.isSome = true →
      exec (.usInit id range ep eport tp tport) s = .next (s.raised .sysTickContention)) ∧
    (id.toNat < s.cfg.usCapacity → ¬(s.st.tickint = true ∧ s.st.slot.isSome = true) →
      exec (.usInit id range ep eport tp tport) s =
        .next { (s.putSensor id.toNat
            { echoPin := ep, echoPort := eport, trigPin := tp, trigPort := tport, range := range,
              timeout := range.toNat * 58842 / 1000 + 1, enabled := true }).putSt
            { s.st with inited := true, enable := false, tickint := false, clkDiv := s.cfg.stDefaultDiv,
                        countflag := false, load := 0, val := 0 } with
          extiReg := s.extiReg.set ep.toNat true ep.isLt,
          out := s.out ++
            [ .call (.rccEnablePeripheralClock (.gpioPort eport) .gpioBus),
              .call (.rccEnablePeripheralClock (.gpioPort tport) .gpioBus),
              .call (.gpioSetPinMode eport ep .inputFloating),
              .call (.gpioSetPinMode tport tp .outputPushPull),
              .call (.afioSetExtiPortMapping ep eport),
              .call (.nvicEnableIrq (irqVector ep)),
              .call (.extiSetCallback ep .edgeHandler),
              .call (.extiSetTriggerEdge ep .both),
              .response .ok 0 ] })

/-- The issue step of US_READ_DISTANCE. A disabled sensor answers DISABLED before any other check and touches nothing;
else the session is reset, the line enabled and the trigger sequence started (44_ultrasonic.md R235). The arms for
`ST.inited = 0` and for an undefined setup delay follow 10_state.md R34 and 43_systick.md R202 (log 14, log 15). -/
def Obligations.UsReadDistanceIssue : Prop :=
  ∀ (s : State) (id : Byte), s.Ready →
    UsGuarded (.usReadDistance id) id True s ∧
    ∀ r : Sensor, id.toNat < s.cfg.usCapacity → sensorAt id.toNat s = some r →
      (r.enabled = false → exec (.usReadDistance id) s = .next (s.answer .ok 0xFFFFFFFE)) ∧
      (r.enabled = true → s.st.inited = false →
        exec (.usReadDistance id) s = .next (s.raised .notInitialised)) ∧
      (r.enabled = true → s.st.inited = true → s.st.tickint = true → s.st.slot.isSome = true →
        exec (.usReadDistance id) s = .next (s.raised .sysTickContention)) ∧
      (∀ (n : Ticks) (rest : List Ticks), r.enabled = true → s.st.inited = true →
        ¬(s.st.tickint = true ∧ s.st.slot.isSome = true) →
        segments (2 * ticksPerUs s.cfg s.st.clkDiv) = some (n :: rest) →
        exec (.usReadDistance id) s =
          .next { s.putSt { s.st with enable := true, load := n, val := n, countflag := false } with
            fg := .stDelay rest (.usTrigHigh id.toNat),
            ses := { s.ses with state := .waitingForRisingEdge },
            extiEn := s.extiEn.set r.echoPin.toNat true r.echoPin.isLt,
            out := s.out ++
              [ .call (.extiEnableLine r.echoPin), .call (.extiSetTriggerEdge r.echoPin .both),
                .call (.gpioSetPinValue r.trigPort r.trigPin .low) ] }) ∧
      (r.enabled = true → s.st.inited = true → ¬(s.st.tickint = true ∧ s.st.slot.isSome = true) →
        segments (2 * ticksPerUs s.cfg s.st.clkDiv) = none →
        ∃ t : State, exec (.usReadDistance id) s = .next t ∧ t.fault = some .delayRange ∧ t.fg = .idle)

/-- US_SET_RANGE recomputes the timeout from the new range alone; US_SET_STATE toggles the sensor; neither emits a call
(44_ultrasonic.md R242, R243). -/
def Obligations.UsSetRangeAndState : Prop :=
  ∀ (s : State) (id : Byte) (v : Half), s.Ready →
    UsGuarded (.usSetRange id v) id True s ∧ UsGuarded (.usSetState id v) id (v.toNat < 2) s ∧
    ∀ r : Sensor, id.toNat < s.cfg.usCapacity → sensorAt id.toNat s = some r →
      exec (.usSetRange id v) s =
        .next ((s.putSensor id.toNat { r with
          range := v, timeout := v.toNat * 58842 / 1000 + 1 }).answer .ok 0) ∧
      (v = 0 → exec (.usSetState id v) s =
        .next ((s.putSensor id.toNat { r with enabled := false }).answer .ok 0)) ∧
      (v = 1 → exec (.usSetState id v) s =
        .next ((s.putSensor id.toNat { r with enabled := true }).answer .ok 0))

/-- EXTI_EDGE: undelivered unless the line is enabled and registered; delivered, it drives the session by order alone
(44_ultrasonic.md R239, R240). Where `VAL > LOAD`, which the invariant rules out, the falling edge reads `LOAD - VAL` as 0:
the model's choice, log 12. -/
def Obligations.ExtiEdgeDrivesTheSession : Prop :=
  ∀ (s : State) (line : Byte) (l : Fin 16), s.Live → line.toNat = l.val →
    (¬(s.extiEn[l] = true ∧ s.extiReg[l] = true) → exec (.extiEdge line) s = .next (fgCheck s)) ∧
    (s.extiEn[l] = true → s.extiReg[l] = true →
      (s.ses.state = .idle → exec (.extiEdge line) s = .next (s.raised .strayEdge)) ∧
      (s.ses.state = .waitingForRisingEdge → (∀ i : Nat, s.fg ≠ .usPoll i) →
        exec (.extiEdge line) s = .next (s.raised .sysTickContention)) ∧
      (∀ i : Nat, s.ses.state = .waitingForRisingEdge → s.fg = .usPoll i → exec (.extiEdge line) s =
        .next (fgCheck { s.putSt { s.st with
            enable := true, load := 0xFFFFFF, val := 0xFFFFFF, countflag := false } with
          ses := { s.ses with state := .waitingForFallingEdge } })) ∧
      (s.ses.state = .waitingForFallingEdge → exec (.extiEdge line) s =
        .next (fgCheck { s.putSt { s.st with enable := false } with
          ses := { state := .done, distance := 17 * (s.st.load.toNat - s.st.val.toNat) } })) ∧
      (s.ses.state = .done → exec (.extiEdge line) s = .next (fgCheck s)))

/-- The trigger sequence: after the issue step of a read, with no edge, the pin goes high on tick `2 × TICKS_PER_US` and low
on tick `12 × TICKS_PER_US`, and the poll then starts with a full-range elapsed count (44_ultrasonic.md R235, R237;
70_reset_and_hazards.md R321). A clock that puts one of the two delays out of range: UsReadDistanceIssue and
FgCheckArms. -/
def Obligations.TriggerPulseLastsTenMicroseconds : Prop :=
  ∀ (s : State) (id : Byte) (r : Sensor) (f : Nat), s.Ready → id.toNat < s.cfg.usCapacity →
    sensorAt id.toNat s = some r → r.enabled = true → s.st.inited = true → s.st.tickint = false →
    f = ticksPerUs s.cfg s.st.clkDiv → 1 ≤ f → 10 * f < 4294967296 →
    ∃ u v : State, exec (.usReadDistance id) s = .next u ∧
      (∀ k : Nat, k < 2 * f → ∃ x : State, execTimes .stTick k u = .next x ∧ x.out = u.out) ∧
      execTimes .stTick (2 * f) u = .next v ∧
      v.out = u.out ++ [.call (.gpioSetPinValue r.trigPort r.trigPin .high)] ∧
      (∀ k : Nat, k < 10 * f → ∃ x : State, execTimes .stTick k v = .next x ∧ x.out = v.out) ∧
      execTimes .stTick (12 * f) u =
        .next { u.putSt { u.st with enable := true, load := 0xFFFFFF, val := 0xFFFFFF, countflag := false } with
          fg := .usPoll id.toNat,
          out := v.out ++ [.call (.gpioSetPinValue r.trigPort r.trigPin .low)] }

/-- An echo pulse of `e` ticks, within the timeout, is reported as the distance `17 e` thousandths of a centimetre with
status OK, and leaves the session Done, SysTick stopped and the lines as they were; the two edges may come on any two
delivered lines (44_ultrasonic.md R232, R238, R240, R245). -/
def Obligations.EchoWidthIsReportedAsDistance : Prop :=
  ∀ (s : State) (i : Nat) (r : Sensor) (line line' : Byte) (l l' : Fin 16) (e : Nat), s.Live → s.fg = .usPoll i →
    sensorAt i s = some r → s.ses.state = .waitingForRisingEdge → s.st.tickint = false →
    line.toNat = l.val → s.extiEn[l] = true → s.extiReg[l] = true →
    line'.toNat = l'.val → s.extiEn[l'] = true → s.extiReg[l'] = true → e ≤ r.timeout → e < 16777215 →
    ∃ u x : State, exec (.extiEdge line) s = .next u ∧ execTimes .stTick e u = .next x ∧ x.out = s.out ∧
      exec (.extiEdge line') x =
        .next ({ s.putSt { s.st with
            enable := false, load := 0xFFFFFF, val := BitVec.ofNat 24 (16777215 - e), countflag := false } with
          fg := .idle, ses := { state := .done, distance := 17 * e } }.answer .ok (BitVec.ofNat 32 (17 * e)))

/-- With no edge, a poll that starts a full-range count answers OUT_OF_RANGE on exactly the tick numbered `timeout + 1`,
with the line disabled, SysTick stopped and the session Idle (44_ultrasonic.md R238, R244). -/
def Obligations.ReadTimesOutAfterItsTimeout : Prop :=
  ∀ (s : State) (i : Nat) (r : Sensor), s.Live → s.fg = .usPoll i → sensorAt i s = some r →
    s.ses.state = .waitingForRisingEdge ∨ s.ses.state = .waitingForFallingEdge →
    s.st.tickint = false → s.st.enable = true → s.st.load = 0xFFFFFF → s.st.val = 0xFFFFFF → r.timeout < 16777214 →
    (∀ k : Nat, k ≤ r.timeout → ∃ x : State, execTimes .stTick k s = .next x ∧ x.fg = .usPoll i ∧ x.out = s.out) ∧
    execTimes .stTick (r.timeout + 1) s =
      .next ({ s.putSt { s.st with enable := false, val := BitVec.ofNat 24 (16777215 - (r.timeout + 1)) } with
        fg := .idle, ses := { s.ses with state := .idle },
        extiEn := s.extiEn.set r.echoPin.toNat false r.echoPin.isLt,
        out := s.out ++ [Record.call (.extiDisableLine r.echoPin)] }.answer .ok 0xFFFFFFFF)
end

