-- ==== Sys2Proof/Laws/Frames.lean ====
section
/-! SUPPORT. The fields of a header word (30_encoding.md R80): reading back what a header was built with, and building a
header from what was read. -/

namespace Sys2Proof

/-- A header word as a number. -/
theorem headerWord_toNat (op sel : Byte) (imm : Half) :
    (headerWord op sel imm).toNat = op.toNat * 16777216 + sel.toNat * 65536 + imm.toNat := by
  have h2 := sel.isLt
  have h3 := imm.isLt
  simp only [headerWord, BitVec.toNat_append]
  rw [← Nat.shiftLeft_add_eq_or_of_lt h2, ← Nat.shiftLeft_add_eq_or_of_lt h3]
  simp only [Nat.shiftLeft_eq]
  omega

/-- The fields of a word as numbers. -/
theorem opField_toNat (w : Word) : (opField w).toNat = w.toNat / 16777216 := by
  have := w.isLt
  simp only [opField, BitVec.extractLsb'_toNat, Nat.shiftRight_eq_div_pow]
  omega

theorem selField_toNat (w : Word) : (selField w).toNat = w.toNat / 65536 % 256 := by
  simp only [selField, BitVec.extractLsb'_toNat, Nat.shiftRight_eq_div_pow]

theorem immField_toNat (w : Word) : (immField w).toNat = w.toNat % 65536 := by
  simp only [immField, BitVec.extractLsb'_toNat, Nat.shiftRight_eq_div_pow, Nat.pow_zero, Nat.div_one]

@[simp] theorem opField_headerWord (op sel : Byte) (imm : Half) : opField (headerWord op sel imm) = op := by
  apply BitVec.eq_of_toNat_eq
  have := sel.isLt
  have := imm.isLt
  rw [opField_toNat, headerWord_toNat]
  omega

@[simp] theorem selField_headerWord (op sel : Byte) (imm : Half) : selField (headerWord op sel imm) = sel := by
  apply BitVec.eq_of_toNat_eq
  have := sel.isLt
  have := imm.isLt
  rw [selField_toNat, headerWord_toNat]
  omega

@[simp] theorem immField_headerWord (op sel : Byte) (imm : Half) : immField (headerWord op sel imm) = imm := by
  apply BitVec.eq_of_toNat_eq
  have := imm.isLt
  rw [immField_toNat, headerWord_toNat]
  omega

/-- A word is the header of its fields. -/
theorem headerWord_of_fields (w : Word) : headerWord (opField w) (selField w) (immField w) = w := by
  apply BitVec.eq_of_toNat_eq
  rw [headerWord_toNat, opField_toNat, selField_toNat, immField_toNat]
  omega

end Sys2Proof
end

