-- ==== Sys2Proof/Laws/State.lean ====
section
/-! SUPPORT. One lemma per field per update: what each named update of State leaves in each field. -/

namespace Sys2Proof.Machine

/-! ### emit -/

@[simp] theorem emit_cfg (r : Record) (s : State) : (emit r s).cfg = s.cfg := rfl
@[simp] theorem emit_fg (r : Record) (s : State) : (emit r s).fg = s.fg := rfl
@[simp] theorem emit_fault (r : Record) (s : State) : (emit r s).fault = s.fault := rfl
@[simp] theorem emit_out (r : Record) (s : State) : (emit r s).out = s.out ++ [r] := rfl
@[simp] theorem emit_timers (r : Record) (s : State) : (emit r s).timers = s.timers := rfl
@[simp] theorem emit_st (r : Record) (s : State) : (emit r s).st = s.st := rfl
@[simp] theorem emit_sensors (r : Record) (s : State) : (emit r s).sensors = s.sensors := rfl
@[simp] theorem emit_ses (r : Record) (s : State) : (emit r s).ses = s.ses := rfl
@[simp] theorem emit_extiEn (r : Record) (s : State) : (emit r s).extiEn = s.extiEn := rfl
@[simp] theorem emit_extiReg (r : Record) (s : State) : (emit r s).extiReg = s.extiReg := rfl
@[simp] theorem emit_input (r : Record) (s : State) : (emit r s).input = s.input := rfl
@[simp] theorem emit_drawCount (r : Record) (s : State) : (emit r s).drawCount = s.drawCount := rfl

/-! ### emitCall -/

@[simp] theorem emitCall_cfg (c : Call) (s : State) : (emitCall c s).cfg = s.cfg := rfl
@[simp] theorem emitCall_fg (c : Call) (s : State) : (emitCall c s).fg = s.fg := rfl
@[simp] theorem emitCall_fault (c : Call) (s : State) : (emitCall c s).fault = s.fault := rfl
@[simp] theorem emitCall_out (c : Call) (s : State) : (emitCall c s).out = s.out ++ [.call c] := rfl
@[simp] theorem emitCall_timers (c : Call) (s : State) : (emitCall c s).timers = s.timers := rfl
@[simp] theorem emitCall_st (c : Call) (s : State) : (emitCall c s).st = s.st := rfl
@[simp] theorem emitCall_sensors (c : Call) (s : State) : (emitCall c s).sensors = s.sensors := rfl
@[simp] theorem emitCall_ses (c : Call) (s : State) : (emitCall c s).ses = s.ses := rfl
@[simp] theorem emitCall_extiEn (c : Call) (s : State) : (emitCall c s).extiEn = s.extiEn := rfl
@[simp] theorem emitCall_extiReg (c : Call) (s : State) : (emitCall c s).extiReg = s.extiReg := rfl
@[simp] theorem emitCall_input (c : Call) (s : State) : (emitCall c s).input = s.input := rfl
@[simp] theorem emitCall_drawCount (c : Call) (s : State) : (emitCall c s).drawCount = s.drawCount := rfl

/-! ### respond -/

@[simp] theorem respond_cfg (x : Status) (v : Word) (s : State) : (respond x v s).cfg = s.cfg := rfl
@[simp] theorem respond_fg (x : Status) (v : Word) (s : State) : (respond x v s).fg = s.fg := rfl
@[simp] theorem respond_fault (x : Status) (v : Word) (s : State) : (respond x v s).fault = s.fault := rfl
@[simp] theorem respond_out (x : Status) (v : Word) (s : State) : (respond x v s).out = s.out ++ [.response x v] := rfl
@[simp] theorem respond_timers (x : Status) (v : Word) (s : State) : (respond x v s).timers = s.timers := rfl
@[simp] theorem respond_st (x : Status) (v : Word) (s : State) : (respond x v s).st = s.st := rfl
@[simp] theorem respond_sensors (x : Status) (v : Word) (s : State) : (respond x v s).sensors = s.sensors := rfl
@[simp] theorem respond_ses (x : Status) (v : Word) (s : State) : (respond x v s).ses = s.ses := rfl
@[simp] theorem respond_extiEn (x : Status) (v : Word) (s : State) : (respond x v s).extiEn = s.extiEn := rfl
@[simp] theorem respond_extiReg (x : Status) (v : Word) (s : State) : (respond x v s).extiReg = s.extiReg := rfl
@[simp] theorem respond_input (x : Status) (v : Word) (s : State) : (respond x v s).input = s.input := rfl
@[simp] theorem respond_drawCount (x : Status) (v : Word) (s : State) : (respond x v s).drawCount = s.drawCount := rfl

/-! ### respondOk -/

@[simp] theorem respondOk_cfg (s : State) : (respondOk s).cfg = s.cfg := rfl
@[simp] theorem respondOk_fg (s : State) : (respondOk s).fg = s.fg := rfl
@[simp] theorem respondOk_fault (s : State) : (respondOk s).fault = s.fault := rfl
@[simp] theorem respondOk_out (s : State) : (respondOk s).out = s.out ++ [.response .ok 0] := rfl
@[simp] theorem respondOk_timers (s : State) : (respondOk s).timers = s.timers := rfl
@[simp] theorem respondOk_st (s : State) : (respondOk s).st = s.st := rfl
@[simp] theorem respondOk_sensors (s : State) : (respondOk s).sensors = s.sensors := rfl
@[simp] theorem respondOk_ses (s : State) : (respondOk s).ses = s.ses := rfl
@[simp] theorem respondOk_extiEn (s : State) : (respondOk s).extiEn = s.extiEn := rfl
@[simp] theorem respondOk_extiReg (s : State) : (respondOk s).extiReg = s.extiReg := rfl
@[simp] theorem respondOk_input (s : State) : (respondOk s).input = s.input := rfl
@[simp] theorem respondOk_drawCount (s : State) : (respondOk s).drawCount = s.drawCount := rfl

/-! ### failParam -/

@[simp] theorem failParam_cfg (s : State) : (failParam s).cfg = s.cfg := rfl
@[simp] theorem failParam_fg (s : State) : (failParam s).fg = s.fg := rfl
@[simp] theorem failParam_fault (s : State) : (failParam s).fault = s.fault := rfl
@[simp] theorem failParam_out (s : State) : (failParam s).out = s.out ++ [.response .failParam 0] := rfl
@[simp] theorem failParam_timers (s : State) : (failParam s).timers = s.timers := rfl
@[simp] theorem failParam_st (s : State) : (failParam s).st = s.st := rfl
@[simp] theorem failParam_sensors (s : State) : (failParam s).sensors = s.sensors := rfl
@[simp] theorem failParam_ses (s : State) : (failParam s).ses = s.ses := rfl
@[simp] theorem failParam_extiEn (s : State) : (failParam s).extiEn = s.extiEn := rfl
@[simp] theorem failParam_extiReg (s : State) : (failParam s).extiReg = s.extiReg := rfl
@[simp] theorem failParam_input (s : State) : (failParam s).input = s.input := rfl
@[simp] theorem failParam_drawCount (s : State) : (failParam s).drawCount = s.drawCount := rfl

/-! ### failConfig -/

@[simp] theorem failConfig_cfg (s : State) : (failConfig s).cfg = s.cfg := rfl
@[simp] theorem failConfig_fg (s : State) : (failConfig s).fg = s.fg := rfl
@[simp] theorem failConfig_fault (s : State) : (failConfig s).fault = s.fault := rfl
@[simp] theorem failConfig_out (s : State) : (failConfig s).out = s.out ++ [.response .failConfig 0] := rfl
@[simp] theorem failConfig_timers (s : State) : (failConfig s).timers = s.timers := rfl
@[simp] theorem failConfig_st (s : State) : (failConfig s).st = s.st := rfl
@[simp] theorem failConfig_sensors (s : State) : (failConfig s).sensors = s.sensors := rfl
@[simp] theorem failConfig_ses (s : State) : (failConfig s).ses = s.ses := rfl
@[simp] theorem failConfig_extiEn (s : State) : (failConfig s).extiEn = s.extiEn := rfl
@[simp] theorem failConfig_extiReg (s : State) : (failConfig s).extiReg = s.extiReg := rfl
@[simp] theorem failConfig_input (s : State) : (failConfig s).input = s.input := rfl
@[simp] theorem failConfig_drawCount (s : State) : (failConfig s).drawCount = s.drawCount := rfl

/-! ### modifyTimer -/

@[simp] theorem modifyTimer_cfg (n : Fin 4) (f : Timer → Timer) (s : State) : (modifyTimer n f s).cfg = s.cfg := rfl
@[simp] theorem modifyTimer_fg (n : Fin 4) (f : Timer → Timer) (s : State) : (modifyTimer n f s).fg = s.fg := rfl
@[simp] theorem modifyTimer_fault (n : Fin 4) (f : Timer → Timer) (s : State) : (modifyTimer n f s).fault = s.fault := rfl
@[simp] theorem modifyTimer_out (n : Fin 4) (f : Timer → Timer) (s : State) : (modifyTimer n f s).out = s.out := rfl
@[simp] theorem modifyTimer_timers (n : Fin 4) (f : Timer → Timer) (s : State) : (modifyTimer n f s).timers = s.timers.set n (f s.timers[n]) := rfl
@[simp] theorem modifyTimer_st (n : Fin 4) (f : Timer → Timer) (s : State) : (modifyTimer n f s).st = s.st := rfl
@[simp] theorem modifyTimer_sensors (n : Fin 4) (f : Timer → Timer) (s : State) : (modifyTimer n f s).sensors = s.sensors := rfl
@[simp] theorem modifyTimer_ses (n : Fin 4) (f : Timer → Timer) (s : State) : (modifyTimer n f s).ses = s.ses := rfl
@[simp] theorem modifyTimer_extiEn (n : Fin 4) (f : Timer → Timer) (s : State) : (modifyTimer n f s).extiEn = s.extiEn := rfl
@[simp] theorem modifyTimer_extiReg (n : Fin 4) (f : Timer → Timer) (s : State) : (modifyTimer n f s).extiReg = s.extiReg := rfl
@[simp] theorem modifyTimer_input (n : Fin 4) (f : Timer → Timer) (s : State) : (modifyTimer n f s).input = s.input := rfl
@[simp] theorem modifyTimer_drawCount (n : Fin 4) (f : Timer → Timer) (s : State) : (modifyTimer n f s).drawCount = s.drawCount := rfl

/-! ### modifySt -/

@[simp] theorem modifySt_cfg (f : SysTick → SysTick) (s : State) : (modifySt f s).cfg = s.cfg := rfl
@[simp] theorem modifySt_fg (f : SysTick → SysTick) (s : State) : (modifySt f s).fg = s.fg := rfl
@[simp] theorem modifySt_fault (f : SysTick → SysTick) (s : State) : (modifySt f s).fault = s.fault := rfl
@[simp] theorem modifySt_out (f : SysTick → SysTick) (s : State) : (modifySt f s).out = s.out := rfl
@[simp] theorem modifySt_timers (f : SysTick → SysTick) (s : State) : (modifySt f s).timers = s.timers := rfl
@[simp] theorem modifySt_st (f : SysTick → SysTick) (s : State) : (modifySt f s).st = f s.st := rfl
@[simp] theorem modifySt_sensors (f : SysTick → SysTick) (s : State) : (modifySt f s).sensors = s.sensors := rfl
@[simp] theorem modifySt_ses (f : SysTick → SysTick) (s : State) : (modifySt f s).ses = s.ses := rfl
@[simp] theorem modifySt_extiEn (f : SysTick → SysTick) (s : State) : (modifySt f s).extiEn = s.extiEn := rfl
@[simp] theorem modifySt_extiReg (f : SysTick → SysTick) (s : State) : (modifySt f s).extiReg = s.extiReg := rfl
@[simp] theorem modifySt_input (f : SysTick → SysTick) (s : State) : (modifySt f s).input = s.input := rfl
@[simp] theorem modifySt_drawCount (f : SysTick → SysTick) (s : State) : (modifySt f s).drawCount = s.drawCount := rfl

/-! ### setSensor -/

@[simp] theorem setSensor_cfg (i : Nat) (r : Sensor) (s : State) : (setSensor i r s).cfg = s.cfg := rfl
@[simp] theorem setSensor_fg (i : Nat) (r : Sensor) (s : State) : (setSensor i r s).fg = s.fg := rfl
@[simp] theorem setSensor_fault (i : Nat) (r : Sensor) (s : State) : (setSensor i r s).fault = s.fault := rfl
@[simp] theorem setSensor_out (i : Nat) (r : Sensor) (s : State) : (setSensor i r s).out = s.out := rfl
@[simp] theorem setSensor_timers (i : Nat) (r : Sensor) (s : State) : (setSensor i r s).timers = s.timers := rfl
@[simp] theorem setSensor_st (i : Nat) (r : Sensor) (s : State) : (setSensor i r s).st = s.st := rfl
@[simp] theorem setSensor_sensors (i : Nat) (r : Sensor) (s : State) : (setSensor i r s).sensors = s.sensors.set i (some r) := rfl
@[simp] theorem setSensor_ses (i : Nat) (r : Sensor) (s : State) : (setSensor i r s).ses = s.ses := rfl
@[simp] theorem setSensor_extiEn (i : Nat) (r : Sensor) (s : State) : (setSensor i r s).extiEn = s.extiEn := rfl
@[simp] theorem setSensor_extiReg (i : Nat) (r : Sensor) (s : State) : (setSensor i r s).extiReg = s.extiReg := rfl
@[simp] theorem setSensor_input (i : Nat) (r : Sensor) (s : State) : (setSensor i r s).input = s.input := rfl
@[simp] theorem setSensor_drawCount (i : Nat) (r : Sensor) (s : State) : (setSensor i r s).drawCount = s.drawCount := rfl

/-! ### setExtiEn -/

@[simp] theorem setExtiEn_cfg (l : Nibble) (b : Bool) (s : State) : (setExtiEn l b s).cfg = s.cfg := rfl
@[simp] theorem setExtiEn_fg (l : Nibble) (b : Bool) (s : State) : (setExtiEn l b s).fg = s.fg := rfl
@[simp] theorem setExtiEn_fault (l : Nibble) (b : Bool) (s : State) : (setExtiEn l b s).fault = s.fault := rfl
@[simp] theorem setExtiEn_out (l : Nibble) (b : Bool) (s : State) : (setExtiEn l b s).out = s.out := rfl
@[simp] theorem setExtiEn_timers (l : Nibble) (b : Bool) (s : State) : (setExtiEn l b s).timers = s.timers := rfl
@[simp] theorem setExtiEn_st (l : Nibble) (b : Bool) (s : State) : (setExtiEn l b s).st = s.st := rfl
@[simp] theorem setExtiEn_sensors (l : Nibble) (b : Bool) (s : State) : (setExtiEn l b s).sensors = s.sensors := rfl
@[simp] theorem setExtiEn_ses (l : Nibble) (b : Bool) (s : State) : (setExtiEn l b s).ses = s.ses := rfl
@[simp] theorem setExtiEn_extiEn (l : Nibble) (b : Bool) (s : State) : (setExtiEn l b s).extiEn = s.extiEn.set l.toNat b l.isLt := rfl
@[simp] theorem setExtiEn_extiReg (l : Nibble) (b : Bool) (s : State) : (setExtiEn l b s).extiReg = s.extiReg := rfl
@[simp] theorem setExtiEn_input (l : Nibble) (b : Bool) (s : State) : (setExtiEn l b s).input = s.input := rfl
@[simp] theorem setExtiEn_drawCount (l : Nibble) (b : Bool) (s : State) : (setExtiEn l b s).drawCount = s.drawCount := rfl

/-! ### setExtiReg -/

@[simp] theorem setExtiReg_cfg (l : Nibble) (s : State) : (setExtiReg l s).cfg = s.cfg := rfl
@[simp] theorem setExtiReg_fg (l : Nibble) (s : State) : (setExtiReg l s).fg = s.fg := rfl
@[simp] theorem setExtiReg_fault (l : Nibble) (s : State) : (setExtiReg l s).fault = s.fault := rfl
@[simp] theorem setExtiReg_out (l : Nibble) (s : State) : (setExtiReg l s).out = s.out := rfl
@[simp] theorem setExtiReg_timers (l : Nibble) (s : State) : (setExtiReg l s).timers = s.timers := rfl
@[simp] theorem setExtiReg_st (l : Nibble) (s : State) : (setExtiReg l s).st = s.st := rfl
@[simp] theorem setExtiReg_sensors (l : Nibble) (s : State) : (setExtiReg l s).sensors = s.sensors := rfl
@[simp] theorem setExtiReg_ses (l : Nibble) (s : State) : (setExtiReg l s).ses = s.ses := rfl
@[simp] theorem setExtiReg_extiEn (l : Nibble) (s : State) : (setExtiReg l s).extiEn = s.extiEn := rfl
@[simp] theorem setExtiReg_extiReg (l : Nibble) (s : State) : (setExtiReg l s).extiReg = s.extiReg.set l.toNat true l.isLt := rfl
@[simp] theorem setExtiReg_input (l : Nibble) (s : State) : (setExtiReg l s).input = s.input := rfl
@[simp] theorem setExtiReg_drawCount (l : Nibble) (s : State) : (setExtiReg l s).drawCount = s.drawCount := rfl

/-! ### raise -/

theorem raise_of_none {r : Reason} {s : State} (h : s.fault = none) : raise r s = { s with fault := some r } := by
  simp [raise, h]

theorem raise_of_some {r r' : Reason} {s : State} (h : s.fault = some r') : raise r s = s := by
  simp [raise, h]

@[simp] theorem raise_cfg (r : Reason) (s : State) : (raise r s).cfg = s.cfg := by
  cases h : s.fault <;> simp [raise, h]

@[simp] theorem raise_fg (r : Reason) (s : State) : (raise r s).fg = s.fg := by
  cases h : s.fault <;> simp [raise, h]

theorem raise_fault (r : Reason) (s : State) : (raise r s).fault = some (s.fault.getD r) := by
  cases h : s.fault <;> simp [raise, h]

@[simp] theorem raise_fault_ne_none (r : Reason) (s : State) : (raise r s).fault ≠ none := by
  simp [raise_fault]

@[simp] theorem raise_out (r : Reason) (s : State) : (raise r s).out = s.out := by
  cases h : s.fault <;> simp [raise, h]

@[simp] theorem raise_timers (r : Reason) (s : State) : (raise r s).timers = s.timers := by
  cases h : s.fault <;> simp [raise, h]

@[simp] theorem raise_st (r : Reason) (s : State) : (raise r s).st = s.st := by
  cases h : s.fault <;> simp [raise, h]

@[simp] theorem raise_sensors (r : Reason) (s : State) : (raise r s).sensors = s.sensors := by
  cases h : s.fault <;> simp [raise, h]

@[simp] theorem raise_ses (r : Reason) (s : State) : (raise r s).ses = s.ses := by
  cases h : s.fault <;> simp [raise, h]

@[simp] theorem raise_extiEn (r : Reason) (s : State) : (raise r s).extiEn = s.extiEn := by
  cases h : s.fault <;> simp [raise, h]

@[simp] theorem raise_extiReg (r : Reason) (s : State) : (raise r s).extiReg = s.extiReg := by
  cases h : s.fault <;> simp [raise, h]

@[simp] theorem raise_input (r : Reason) (s : State) : (raise r s).input = s.input := by
  cases h : s.fault <;> simp [raise, h]

@[simp] theorem raise_drawCount (r : Reason) (s : State) : (raise r s).drawCount = s.drawCount := by
  cases h : s.fault <;> simp [raise, h]

/-! ### timers -/

theorem timerAt_def (n : Fin 4) (s : State) : timerAt n s = s.timers[n] := rfl

@[simp] theorem timerAt_modifyTimer_same (n : Fin 4) (f : Timer → Timer) (s : State) :
    timerAt n (modifyTimer n f s) = f (timerAt n s) := by
  simp [timerAt]

theorem timerAt_modifyTimer_of_ne {n m : Fin 4} (h : m ≠ n) (f : Timer → Timer) (s : State) :
    timerAt m (modifyTimer n f s) = timerAt m s := by
  have h' : n.val ≠ m.val := fun e => h (Fin.ext e.symm)
  simp [timerAt, h']

@[simp] theorem writeArr_arr (v : Half) (t : Timer) : (writeArr v t).arr = v := rfl
@[simp] theorem writeArr_arrSh (v : Half) (t : Timer) : (writeArr v t).arrSh = if t.arpe then t.arrSh else v := rfl
@[simp] theorem writeArr_inited (v : Half) (t : Timer) : (writeArr v t).inited = t.inited := rfl
@[simp] theorem writeArr_cen (v : Half) (t : Timer) : (writeArr v t).cen = t.cen := rfl
@[simp] theorem writeArr_dir (v : Half) (t : Timer) : (writeArr v t).dir = t.dir := rfl
@[simp] theorem writeArr_arpe (v : Half) (t : Timer) : (writeArr v t).arpe = t.arpe := rfl
@[simp] theorem writeArr_ckd (v : Half) (t : Timer) : (writeArr v t).ckd = t.ckd := rfl
@[simp] theorem writeArr_uie (v : Half) (t : Timer) : (writeArr v t).uie = t.uie := rfl
@[simp] theorem writeArr_uif (v : Half) (t : Timer) : (writeArr v t).uif = t.uif := rfl
@[simp] theorem writeArr_psc (v : Half) (t : Timer) : (writeArr v t).psc = t.psc := rfl
@[simp] theorem writeArr_cnt (v : Half) (t : Timer) : (writeArr v t).cnt = t.cnt := rfl
@[simp] theorem writeArr_channels (v : Half) (t : Timer) : (writeArr v t).channels = t.channels := rfl
@[simp] theorem writeArr_slot (v : Half) (t : Timer) : (writeArr v t).slot = t.slot := rfl

/-! ### SysTick -/

@[simp] theorem stProgram_inited (n : Ticks) (st : SysTick) : (stProgram n st).inited = st.inited := rfl
@[simp] theorem stProgram_enable (n : Ticks) (st : SysTick) : (stProgram n st).enable = st.enable := rfl
@[simp] theorem stProgram_tickint (n : Ticks) (st : SysTick) : (stProgram n st).tickint = st.tickint := rfl
@[simp] theorem stProgram_clkDiv (n : Ticks) (st : SysTick) : (stProgram n st).clkDiv = st.clkDiv := rfl
@[simp] theorem stProgram_countflag (n : Ticks) (st : SysTick) : (stProgram n st).countflag = false := rfl
@[simp] theorem stProgram_load (n : Ticks) (st : SysTick) : (stProgram n st).load = n := rfl
@[simp] theorem stProgram_val (n : Ticks) (st : SysTick) : (stProgram n st).val = n := rfl
@[simp] theorem stProgram_slot (n : Ticks) (st : SysTick) : (stProgram n st).slot = st.slot := rfl
@[simp] theorem stProgram_ovw (n : Ticks) (st : SysTick) : (stProgram n st).ovw = st.ovw := rfl

@[simp] theorem stInitWith_inited (d : ClkDiv) (n : Ticks) (st : SysTick) : (stInitWith d n st).inited = true := rfl
@[simp] theorem stInitWith_enable (d : ClkDiv) (n : Ticks) (st : SysTick) : (stInitWith d n st).enable = false := rfl
@[simp] theorem stInitWith_tickint (d : ClkDiv) (n : Ticks) (st : SysTick) : (stInitWith d n st).tickint = false := rfl
@[simp] theorem stInitWith_clkDiv (d : ClkDiv) (n : Ticks) (st : SysTick) : (stInitWith d n st).clkDiv = d := rfl
@[simp] theorem stInitWith_countflag (d : ClkDiv) (n : Ticks) (st : SysTick) : (stInitWith d n st).countflag = false := rfl
@[simp] theorem stInitWith_load (d : ClkDiv) (n : Ticks) (st : SysTick) : (stInitWith d n st).load = n := rfl
@[simp] theorem stInitWith_val (d : ClkDiv) (n : Ticks) (st : SysTick) : (stInitWith d n st).val = n := rfl
@[simp] theorem stInitWith_slot (d : ClkDiv) (n : Ticks) (st : SysTick) : (stInitWith d n st).slot = st.slot := rfl
@[simp] theorem stInitWith_ovw (d : ClkDiv) (n : Ticks) (st : SysTick) : (stInitWith d n st).ovw = st.ovw := rfl

@[simp] theorem stArm_inited (m : IntervalMode) (cb : Word) (t : Ticks) (st : SysTick) : (stArm m cb t st).inited = st.inited := rfl
@[simp] theorem stArm_enable (m : IntervalMode) (cb : Word) (t : Ticks) (st : SysTick) : (stArm m cb t st).enable = true := rfl
@[simp] theorem stArm_tickint (m : IntervalMode) (cb : Word) (t : Ticks) (st : SysTick) : (stArm m cb t st).tickint = true := rfl
@[simp] theorem stArm_clkDiv (m : IntervalMode) (cb : Word) (t : Ticks) (st : SysTick) : (stArm m cb t st).clkDiv = st.clkDiv := rfl
@[simp] theorem stArm_countflag (m : IntervalMode) (cb : Word) (t : Ticks) (st : SysTick) : (stArm m cb t st).countflag = false := rfl
@[simp] theorem stArm_load (m : IntervalMode) (cb : Word) (t : Ticks) (st : SysTick) : (stArm m cb t st).load = t := rfl
@[simp] theorem stArm_val (m : IntervalMode) (cb : Word) (t : Ticks) (st : SysTick) : (stArm m cb t st).val = t := rfl
@[simp] theorem stArm_slot (m : IntervalMode) (cb : Word) (t : Ticks) (st : SysTick) : (stArm m cb t st).slot = some ⟨m, cb⟩ := rfl
@[simp] theorem stArm_ovw (m : IntervalMode) (cb : Word) (t : Ticks) (st : SysTick) : (stArm m cb t st).ovw = overwriteFlag st := rfl

@[simp] theorem stStartElapsed_inited (st : SysTick) : (stStartElapsed st).inited = st.inited := rfl
@[simp] theorem stStartElapsed_enable (st : SysTick) : (stStartElapsed st).enable = true := rfl
@[simp] theorem stStartElapsed_tickint (st : SysTick) : (stStartElapsed st).tickint = st.tickint := rfl
@[simp] theorem stStartElapsed_clkDiv (st : SysTick) : (stStartElapsed st).clkDiv = st.clkDiv := rfl
@[simp] theorem stStartElapsed_countflag (st : SysTick) : (stStartElapsed st).countflag = false := rfl
@[simp] theorem stStartElapsed_load (st : SysTick) : (stStartElapsed st).load = BitVec.ofNat 24 stMaxReload := rfl
@[simp] theorem stStartElapsed_val (st : SysTick) : (stStartElapsed st).val = BitVec.ofNat 24 stMaxReload := rfl
@[simp] theorem stStartElapsed_slot (st : SysTick) : (stStartElapsed st).slot = st.slot := rfl
@[simp] theorem stStartElapsed_ovw (st : SysTick) : (stStartElapsed st).ovw = st.ovw := rfl

/-! ### sensors -/

theorem sensorAt_of_lt {i : Nat} {s : State} (h : i < s.sensors.length) : sensorAt i s = s.sensors[i] := by
  simp [sensorAt, h]

theorem sensorAt_setSensor_same {i : Nat} {r : Sensor} {s : State} (h : i < s.sensors.length) :
    sensorAt i (setSensor i r s) = some r := by
  simp [sensorAt, h]

theorem sensorAt_setSensor_of_ne {i j : Nat} (h : j ≠ i) (r : Sensor) (s : State) :
    sensorAt j (setSensor i r s) = sensorAt j s := by
  simp [sensorAt, List.getElem?_set_ne h.symm]

theorem sensorAt_congr {s t : State} (h : s.sensors = t.sensors) (i : Nat) : sensorAt i s = sensorAt i t := by
  simp [sensorAt, h]

end Sys2Proof.Machine
end

