-- ==== Sys2Proof/Laws/Ops.lean ====
section
/-! SUPPORT. What each shared operation can do, said once: the gate, the checks, the foreground's rounds, the step. -/

namespace Sys2Proof.Machine

/-! ## The gate -/

/-- What the gate answers when it goes on: the block was live and the transition ran. -/
theorem event_eq_next {f : State → State} {s t : State} : event f s = .next t ↔ s.Live ∧ t = f s := by
  unfold event
  cases hf : s.fault <;> by_cases hw : wellFormedConfig s.cfg <;> simp [hf, hw, State.Live, eq_comm]

theorem event_of_live {f : State → State} {s : State} (h : s.Live) : event f s = .next (f s) :=
  event_eq_next.mpr ⟨h, rfl⟩

theorem event_of_fault {f : State → State} {s : State} {r : Reason} (hw : wellFormedConfig s.cfg = true)
    (h : s.fault = some r) : event f s = .fault (.stuck r) := by
  simp [event, hw, h]

theorem event_of_illFormed {f : State → State} {s : State} (hw : wellFormedConfig s.cfg = false) :
    event f s = .refused .illFormedConfiguration := by
  simp [event, hw]

/-- What a command answers when it goes on: it ran in an idle block, or it was not taken. -/
theorem command_eq_next {f : State → State} {s t : State} :
    command f s = .next t ↔ s.Live ∧ ((s.fg = .idle ∧ t = f s) ∨ (s.fg ≠ .idle ∧ t = s)) := by
  unfold command
  rw [event_eq_next]
  by_cases h : s.fg = .idle <;> simp [h]

theorem command_of_ready {f : State → State} {s : State} (h : s.Ready) : command f s = .next (f s) :=
  command_eq_next.mpr ⟨h.1, .inl ⟨h.2, rfl⟩⟩

theorem command_of_busy {f : State → State} {s : State} (h : s.Live) (hb : s.fg ≠ .idle) : command f s = .next s :=
  command_eq_next.mpr ⟨h, .inr ⟨hb, rfl⟩⟩

theorem command_of_fault {f : State → State} {s : State} {r : Reason} (hw : wellFormedConfig s.cfg = true)
    (h : s.fault = some r) : command f s = .fault (.stuck r) :=
  event_of_fault hw h

theorem command_of_illFormed {f : State → State} {s : State} (hw : wellFormedConfig s.cfg = false) :
    command f s = .refused .illFormedConfiguration :=
  event_of_illFormed hw

/-! ## Operands -/

theorem timerIndex?_of_lt {sel : Byte} {n : Fin 4} (h : sel.toNat = n.val) : timerIndex? sel = some n := by
  have hn := n.isLt
  simp [timerIndex?, h]

theorem timerIndex?_of_ge {sel : Byte} (h : 4 ≤ sel.toNat) : timerIndex? sel = none := by
  simp [timerIndex?]; omega

theorem timerIndex?_eq_some {sel : Byte} {n : Fin 4} : timerIndex? sel = some n ↔ sel.toNat = n.val := by
  constructor
  · intro h
    simp only [timerIndex?] at h
    split at h
    · cases h; rfl
    · cases h
  · exact timerIndex?_of_lt

theorem channelIndex?_eq_some {c : Nat} {i : Fin 4} : channelIndex? c = some i ↔ c = i.val + 1 := by
  have hi := i.isLt
  simp only [channelIndex?]
  split
  · rename_i h
    simp only [Option.some.injEq, Fin.ext_iff]
    omega
  · simp; omega

theorem check?_eq_some {b : Bool} : check? b = some () ↔ b = true := by
  cases b <;> simp [check?]

theorem check?_eq_none {b : Bool} : check? b = none ↔ b = false := by
  cases b <;> simp [check?]

@[simp] theorem both?_some_some {α β : Type} (a : α) (b : β) : both? (some a) (some b) = some (a, b) := rfl
@[simp] theorem both?_none_left {α β : Type} (b : Option β) : both? (none : Option α) b = none := rfl
@[simp] theorem both?_none_right {α β : Type} (a : Option α) : both? a (none : Option β) = none := by
  cases a <;> rfl

/-! ## The checks of the families -/

/-- A GPT body runs on the timer its ordinal names, once its checks hold. -/
theorem gptChecked_run {α : Type} {t : Byte} {n : Fin 4} {p : Option α} {a : α} {body : Fin 4 → α → State → State}
    {s : State} (ht : t.toNat = n.val) (hp : p = some a) (hi : s.timers[n].inited = true) :
    gptChecked t p body s = body n a s := by
  have hi' : (timerAt n s).inited = true := hi
  simp [gptChecked, timerIndex?_of_lt ht, hp, hi']

theorem gptChecked_uninited {α : Type} {t : Byte} {n : Fin 4} {p : Option α} {a : α}
    {body : Fin 4 → α → State → State} {s : State} (ht : t.toNat = n.val) (hp : p = some a)
    (hi : s.timers[n].inited = false) : gptChecked t p body s = raise .notInitialised s := by
  have hi' : (timerAt n s).inited = false := hi
  simp [gptChecked, timerIndex?_of_lt ht, hp, hi']

theorem gptChecked_badOrdinal {α : Type} {t : Byte} {p : Option α} {body : Fin 4 → α → State → State} {s : State}
    (ht : 4 ≤ t.toNat) : gptChecked t p body s = failParam s := by
  simp [gptChecked, timerIndex?_of_ge ht]

theorem gptChecked_badParam {α : Type} {t : Byte} {p : Option α} {body : Fin 4 → α → State → State} {s : State}
    (hp : p = none) : gptChecked t p body s = failParam s := by
  cases h : timerIndex? t <;> simp [gptChecked, h, hp]

/-- Everything a checked GPT operation can do. -/
theorem gptChecked_cases {α : Type} (t : Byte) (p : Option α) (body : Fin 4 → α → State → State) (s : State) :
    gptChecked t p body s = failParam s ∨
    gptChecked t p body s = raise .notInitialised s ∨
    ∃ n a, t.toNat = n.val ∧ p = some a ∧ s.timers[n].inited = true ∧ gptChecked t p body s = body n a s := by
  cases ht : timerIndex? t with
  | none => left; simp [gptChecked, ht]
  | some n =>
    cases p with
    | none => left; simp [gptChecked, ht]
    | some a =>
      cases hi : s.timers[n].inited with
      | false => right; left; exact gptChecked_uninited (timerIndex?_eq_some.mp ht) rfl hi
      | true =>
        right; right
        exact ⟨n, a, timerIndex?_eq_some.mp ht, rfl, hi, gptChecked_run (timerIndex?_eq_some.mp ht) rfl hi⟩

theorem stChecked_run {α : Type} {p : Option α} {a : α} {body : α → State → State} {s : State} (hp : p = some a)
    (hi : s.st.inited = true) : stChecked p body s = body a s := by
  simp [stChecked, hp, hi]

theorem stChecked_uninited {α : Type} {p : Option α} {a : α} {body : α → State → State} {s : State} (hp : p = some a)
    (hi : s.st.inited = false) : stChecked p body s = raise .notInitialised s := by
  simp [stChecked, hp, hi]

theorem stChecked_badParam {α : Type} {p : Option α} {body : α → State → State} {s : State} (hp : p = none) :
    stChecked p body s = failParam s := by
  simp [stChecked, hp]

/-- Everything a checked ST operation can do. -/
theorem stChecked_cases {α : Type} (p : Option α) (body : α → State → State) (s : State) :
    stChecked p body s = failParam s ∨ stChecked p body s = raise .notInitialised s ∨
    ∃ a, p = some a ∧ s.st.inited = true ∧ stChecked p body s = body a s := by
  cases p with
  | none => exact .inl rfl
  | some a =>
    cases hi : s.st.inited with
    | false => exact .inr (.inl (stChecked_uninited rfl hi))
    | true => exact .inr (.inr ⟨a, rfl, rfl, stChecked_run rfl hi⟩)

theorem usChecked_run {α : Type} {id : Byte} {p : Option α} {a : α} {r : Sensor} {body : Sensor → α → State → State}
    {s : State} (hid : id.toNat < s.cfg.usCapacity) (hp : p = some a) (hr : sensorAt id.toNat s = some r) :
    usChecked id p body s = body r a s := by
  simp [usChecked, hid, hp, hr]

theorem usChecked_uninited {α : Type} {id : Byte} {p : Option α} {a : α} {body : Sensor → α → State → State}
    {s : State} (hid : id.toNat < s.cfg.usCapacity) (hp : p = some a) (hr : sensorAt id.toNat s = none) :
    usChecked id p body s = raise .notInitialised s := by
  simp [usChecked, hid, hp, hr]

theorem usChecked_badIndex {α : Type} {id : Byte} {p : Option α} {body : Sensor → α → State → State} {s : State}
    (hid : s.cfg.usCapacity ≤ id.toNat) : usChecked id p body s = failParam s := by
  simp [usChecked, Nat.not_lt.mpr hid]

theorem usChecked_badParam {α : Type} {id : Byte} {p : Option α} {body : Sensor → α → State → State} {s : State}
    (hp : p = none) : usChecked id p body s = failParam s := by
  by_cases h : id.toNat < s.cfg.usCapacity <;> simp [usChecked, h, hp]

/-- Everything a checked US operation can do. -/
theorem usChecked_cases {α : Type} (id : Byte) (p : Option α) (body : Sensor → α → State → State) (s : State) :
    usChecked id p body s = failParam s ∨ usChecked id p body s = raise .notInitialised s ∨
    ∃ a r, id.toNat < s.cfg.usCapacity ∧ p = some a ∧ sensorAt id.toNat s = some r ∧
      usChecked id p body s = body r a s := by
  by_cases hid : id.toNat < s.cfg.usCapacity
  · cases p with
    | none => exact .inl (usChecked_badParam rfl)
    | some a =>
      cases hr : sensorAt id.toNat s with
      | none => exact .inr (.inl (usChecked_uninited hid rfl hr))
      | some r => exact .inr (.inr ⟨a, r, hid, rfl, rfl, usChecked_run hid rfl hr⟩)
  · exact .inl (usChecked_badIndex (Nat.not_lt.mp hid))

/-! ## The foreground -/

theorem fgArm_of_fault {s : State} (h : s.fault ≠ none) : fgArm s = none := by
  cases hf : s.fault with
  | none => exact absurd hf h
  | some r => simp [fgArm, hf]

theorem fgCheck_of_fault {s : State} (h : s.fault ≠ none) : fgCheck s = s := by
  simp [fgCheck, fgLoop, fgArm_of_fault h]

theorem fgCheck_of_settled {s : State} (h : fgArm s = none) : fgCheck s = s := by
  simp [fgCheck, fgLoop, h]

theorem fgArm_of_idle {s : State} (h : s.fg = .idle) : fgArm s = none := by
  cases hf : s.fault <;> simp [fgArm, hf, h]

theorem fgCheck_of_idle {s : State} (h : s.fg = .idle) : fgCheck s = s := fgCheck_of_settled (fgArm_of_idle h)

@[simp] theorem fgCheck_raise (r : Reason) (s : State) : fgCheck (raise r s) = raise r s :=
  fgCheck_of_fault (raise_fault_ne_none r s)

/-- Everything the start of a delay can do. -/
theorem startDelay_cases (t : Nat) (k : Continuation) (s : State) :
    startDelay t k s = raise .delayRange s ∨
    ∃ n rest, segments t = some (n :: rest) ∧
      startDelay t k s = { modifySt (fun st => { stProgram n st with enable := true }) s with fg := .stDelay rest k } := by
  unfold startDelay
  split
  · rename_i n rest h; exact .inr ⟨n, rest, h, rfl⟩
  · exact .inl rfl
  · exact .inl rfl

theorem fgArm_startDelay (t : Nat) (k : Continuation) (s : State) : fgArm (startDelay t k s) = none := by
  rcases startDelay_cases t k s with h | ⟨n, rest, -, h⟩
  · rw [h]; exact fgArm_of_fault (raise_fault_ne_none _ _)
  · rw [h]; cases hf : s.fault <;> simp [fgArm, hf]

theorem elapsed_stStartElapsed (st : SysTick) : elapsed (stStartElapsed st) = 0 := by
  simp [elapsed]

/-- After a round the foreground is settled, or it is a poll that a just ended trigger pulse has started. -/
theorem fgArm_of_delaySegmentDone {rest : List Ticks} {k : Continuation} {s : State} :
    fgArm (delaySegmentDone rest k s) = none ∨ ∃ i, (delaySegmentDone rest k s).fg = .usPoll i := by
  cases rest with
  | cons n rest => left; cases hf : s.fault <;> simp [fgArm, delaySegmentDone, hf]
  | nil =>
    cases k with
    | respond => left; exact fgArm_of_idle rfl
    | usTrigHigh i =>
      left
      simp only [delaySegmentDone, trigHighPhase]
      split
      · exact fgArm_of_fault (raise_fault_ne_none _ _)
      · exact fgArm_startDelay _ _ _
    | usTrigLow i =>
      simp only [delaySegmentDone, trigLowPhase]
      split
      · left; exact fgArm_of_fault (raise_fault_ne_none _ _)
      · right; exact ⟨i, rfl⟩

theorem fgArm_of_pollCheck {i : Nat} {s t : State} (h : pollCheck i s = some t) : fgArm t = none := by
  simp only [pollCheck] at h
  split at h
  · cases h; exact fgArm_of_fault (raise_fault_ne_none _ _)
  · split at h
    · cases h; exact fgArm_of_idle rfl
    · split at h
      · cases h; exact fgArm_of_idle rfl
      · cases h

theorem fgArm_poll_settles {i : Nat} {s t : State} (hfg : s.fg = .usPoll i) (h : fgArm s = some t) :
    fgArm t = none := by
  cases hf : s.fault with
  | some r => rw [fgArm_of_fault (by simp [hf])] at h; cases h
  | none =>
    simp only [fgArm, hf, hfg] at h
    exact fgArm_of_pollCheck h

/-- Two rounds settle the foreground: after `FgCheck()` no arm applies (10_state.md R22; log 13). -/
theorem fgArm_fgCheck (s : State) : fgArm (fgCheck s) = none := by
  cases h : fgArm s with
  | none => rw [fgCheck_of_settled h, h]
  | some t =>
    suffices hs : fgArm t = none ∨ ∃ i, t.fg = .usPoll i by
      cases ht : fgArm t with
      | none => simp [fgCheck, fgLoop, h, ht]
      | some u =>
        rcases hs with hs | ⟨i, hi⟩
        · rw [ht] at hs; cases hs
        · have := fgArm_poll_settles hi ht
          simp [fgCheck, fgLoop, h, ht, this]
    cases hf : s.fault with
    | some r => rw [fgArm_of_fault (by simp [hf])] at h; cases h
    | none =>
      simp only [fgArm, hf] at h
      split at h
      · cases h
      · split at h
        · cases h; left; exact fgArm_of_idle rfl
        · cases h
      · split at h
        · cases h; exact fgArm_of_delaySegmentDone
        · cases h
      · left; exact fgArm_of_pollCheck h

/-! ## The step -/

/-- A command runs behind the command gate. -/
theorem exec_command {i : Instr} (h : i.port = .command) : ∃ f : State → State, ∀ s, exec i s = command f s := by
  cases i <;> first | exact ⟨_, fun _ => rfl⟩ | cases h

/-- Every instruction runs behind the gate. -/
theorem exec_event (i : Instr) : ∃ f : State → State, ∀ s, exec i s = event f s := by
  cases i <;> exact ⟨_, fun _ => rfl⟩

theorem live_of_exec {i : Instr} {s t : State} (h : exec i s = .next t) : s.Live := by
  obtain ⟨f, hf⟩ := exec_event i
  rw [hf] at h
  exact (event_eq_next.mp h).1

/-- Everything a step that goes on can be: a wait, a frame that is no instruction, or `exec` of the decoded
instruction. -/
theorem step_next_cases {s t : State} (h : step s = .next t) :
    s.Live ∧
    ((s.input = [] ∧ t = s) ∨
     ∃ p rest s', s.input = p :: rest ∧ s' = { s with input := remainingInput p rest } ∧
       ((∃ i, decodeFrame p.port p.words = .ok i ∧ exec i s' = .next t) ∨
        ((decodeFrame p.port p.words = .error .illegalOpcode ∨ decodeFrame p.port p.words = .error .reservedField) ∧
          command (respond .illegal 0) s' = .next t) ∨
        ((decodeFrame p.port p.words = .error .notAnEvent ∨ decodeFrame p.port p.words = .error .incomplete) ∧
          t = s'))) := by
  unfold step serve at h
  split at h
  · rename_i hin
    exact ⟨(event_eq_next.mp h).1, .inl ⟨hin, (event_eq_next.mp h).2⟩⟩
  · rename_i p rest hin
    dsimp only at h
    split at h
    · rename_i i hd
      have hl := live_of_exec h
      exact ⟨hl, .inr ⟨p, rest, _, hin, rfl, .inl ⟨i, hd, h⟩⟩⟩
    · rename_i hd
      exact ⟨(command_eq_next.mp h).1, .inr ⟨p, rest, _, hin, rfl, .inr (.inl ⟨.inl hd, h⟩)⟩⟩
    · rename_i hd
      exact ⟨(command_eq_next.mp h).1, .inr ⟨p, rest, _, hin, rfl, .inr (.inl ⟨.inr hd, h⟩)⟩⟩
    · rename_i hd
      exact ⟨(event_eq_next.mp h).1, .inr ⟨p, rest, _, hin, rfl, .inr (.inr ⟨.inl hd, (event_eq_next.mp h).2⟩)⟩⟩
    · rename_i hd
      exact ⟨(event_eq_next.mp h).1, .inr ⟨p, rest, _, hin, rfl, .inr (.inr ⟨.inr hd, (event_eq_next.mp h).2⟩)⟩⟩

/-! ## Repeated events -/

@[simp] theorem execTimes_zero (i : Instr) (s : State) : execTimes i 0 s = .next s := rfl

theorem execTimes_succ_of_next {i : Instr} {k : Nat} {s t : State} (h : exec i s = .next t) :
    execTimes i (k + 1) s = execTimes i k t := by
  simp [execTimes, h]

/-- Repeating `j + k` times is repeating `k` times after `j` times. -/
theorem execTimes_add {i : Instr} {j k : Nat} {s t : State} (h : execTimes i j s = .next t) :
    execTimes i (j + k) s = execTimes i k t := by
  induction j generalizing s with
  | zero => cases h; simp
  | succ j ih =>
    rw [Nat.add_right_comm]
    cases he : exec i s with
    | next u => simp only [execTimes, he] at h ⊢; exact ih h
    | fault r => simp [execTimes, he] at h
    | refused r => simp [execTimes, he] at h

end Sys2Proof.Machine
end

