-- ==== Sys2Proof/Laws/Handlers.lean ====
section
/-! SUPPORT. What the counters, the interrupt handlers and the foreground's completions can do, each said once. -/

namespace Sys2Proof.Machine

/-! ## Timers -/

/-- Reading timer `m` after timer `n` was replaced. -/
theorem timers_set_getElem (v : Vector Timer 4) (n m : Fin 4) (t : Timer) :
    (v.set n t)[m] = if m = n then t else v[m] := by
  simp [Vector.getElem_set, Fin.ext_iff, eq_comm]

/-- Everything the update interrupt handler can do. -/
theorem gptHandler_cases (n : Fin 4) (s : State) :
    (s.timers[n].slot = none ∧ gptHandler n s = raise .noCallback s) ∨
    (∃ cb, s.timers[n].slot = some ⟨.singleShot, cb⟩ ∧
      gptHandler n s = modifyTimer n (fun t => { t with uif := false }) (emit (.callback .gpt n.val cb)
        (modifyTimer n (fun t => writeArr 0 { t with uie := false, cen := false }) s))) ∨
    (∃ cb, s.timers[n].slot = some ⟨.periodic, cb⟩ ∧
      gptHandler n s = modifyTimer n (fun t => { t with uif := false }) (emit (.callback .gpt n.val cb) s)) := by
  rcases h : s.timers[n].slot with _ | ⟨_ | _, cb⟩
  · exact .inl ⟨rfl, by unfold gptHandler; rw [timerAt_def, h]⟩
  · exact .inr (.inl ⟨cb, rfl, by unfold gptHandler; rw [timerAt_def, h]⟩)
  · exact .inr (.inr ⟨cb, rfl, by unfold gptHandler; rw [timerAt_def, h]⟩)

/-- The shadow is held only while a busy-wait on that timer runs whose target lies above it. -/
theorem shadowHeld_cases (n : Fin 4) (s : State) :
    shadowHeld n s = false ∨
    (shadowHeld n s = Config.waitHoldsShadow ∧ ∃ target, s.fg = .gptWait n target ∧ s.timers[n].arrSh < target) := by
  unfold shadowHeld
  cases hfg : s.fg with
  | idle => exact .inl rfl
  | stDelay rest k => exact .inl rfl
  | usPoll i => exact .inl rfl
  | gptWait m target =>
    by_cases h : m = n ∧ (timerAt n s).arrSh < target
    · obtain ⟨rfl, h2⟩ := h
      exact .inr ⟨if_pos ⟨rfl, h2⟩, target, rfl, h2⟩
    · exact .inl (if_neg h)

@[simp] theorem shadowHeld_of_idle {n : Fin 4} {s : State} (h : s.fg = .idle) : shadowHeld n s = false := by
  unfold shadowHeld; rw [h]

/-- In a busy-wait whose target lies above the shadow, the free value decides. -/
theorem shadowHeld_of_wait {n : Fin 4} {s : State} {target : Half} (h : s.fg = .gptWait n target)
    (hl : s.timers[n].arrSh < target) : shadowHeld n s = Config.waitHoldsShadow := by
  unfold shadowHeld; rw [h]; exact if_pos ⟨rfl, hl⟩

/-- Where the target does not lie above the shadow, nothing is held. -/
theorem shadowHeld_of_le {n : Fin 4} {s : State} (h : ∀ target, s.fg = .gptWait n target → target ≤ s.timers[n].arrSh) :
    shadowHeld n s = false := by
  rcases shadowHeld_cases n s with e | ⟨_, target, e, hl⟩
  · exact e
  · exact absurd (h target e) (BitVec.not_le.2 hl)

/-- Everything an update event can do: the flag is written, the shadow takes the reload unless it is held, then the
handler runs if enabled. -/
theorem updateEvent_cases (n : Fin 4) (s : State) :
    ∃ sh : Half, sh = (if shadowHeld n s then s.timers[n].arrSh else s.timers[n].arr) ∧
      ((s.timers[n].uie = false ∧
        updateEvent n s = modifyTimer n (fun t => { t with uif := true, arrSh := sh }) s) ∨
      (s.timers[n].uie = true ∧
        updateEvent n s = gptHandler n (modifyTimer n (fun t => { t with uif := true, arrSh := sh }) s))) := by
  refine ⟨_, rfl, ?_⟩
  have hu : ∀ sh, (timerAt n (modifyTimer n (fun t => { t with uif := true, arrSh := sh }) s)).uie = s.timers[n].uie := by
    intro sh; rw [timerAt_modifyTimer_same]; rfl
  have hm : updateEvent n s =
      if (timerAt n (modifyTimer n (fun t => { t with
          uif := true, arrSh := if shadowHeld n s then s.timers[n].arrSh else s.timers[n].arr }) s)).uie then
        gptHandler n (modifyTimer n (fun t => { t with
          uif := true, arrSh := if shadowHeld n s then s.timers[n].arrSh else s.timers[n].arr }) s)
      else modifyTimer n (fun t => { t with
          uif := true, arrSh := if shadowHeld n s then s.timers[n].arrSh else s.timers[n].arr }) s := rfl
  rw [hm, hu]
  cases s.timers[n].uie with
  | false => exact .inl ⟨rfl, rfl⟩
  | true => exact .inr ⟨rfl, rfl⟩

/-- Everything one tick of a timer can do before the foreground is checked. -/
theorem gptCount_cases (n : Fin 4) (s : State) :
    (s.timers[n].cen = false ∧ gptCount n s = s) ∨
    (s.timers[n].cen = true ∧
      ((∃ r, gptCount n s = raise r s) ∨
       (s.timers[n].dir = .up ∧ s.timers[n].cnt < s.timers[n].arrSh ∧
         gptCount n s = modifyTimer n (fun t => { t with cnt := t.cnt + 1 }) s) ∨
       (s.timers[n].dir = .up ∧ s.timers[n].cnt = s.timers[n].arrSh ∧
         gptCount n s = updateEvent n (modifyTimer n (fun t => { t with cnt := 0 }) s)) ∨
       (s.timers[n].dir = .down ∧ s.timers[n].cnt ≠ 0 ∧
         gptCount n s = modifyTimer n (fun t => { t with cnt := t.cnt - 1 }) s) ∨
       (s.timers[n].dir = .down ∧ s.timers[n].cnt = 0 ∧
         gptCount n s = updateEvent n (modifyTimer n (fun t => { t with cnt := t.arrSh }) s)))) := by
  rw [gptCount, timerAt_def]
  generalize s.timers[n] = t
  cases t.cen with
  | false => exact .inl ⟨rfl, rfl⟩
  | true =>
    refine .inr ⟨rfl, ?_⟩
    cases t.dir with
    | center => exact .inl ⟨_, rfl⟩
    | up =>
      by_cases h0 : t.arrSh = 0
      · exact .inl ⟨_, if_pos h0⟩
      · by_cases h1 : t.arrSh < t.cnt
        · exact .inl ⟨_, (if_neg h0).trans (if_pos h1)⟩
        · by_cases h2 : t.cnt = t.arrSh
          · exact .inr (.inr (.inl ⟨rfl, h2, (if_neg h0).trans ((if_neg h1).trans (if_pos h2))⟩))
          · refine .inr (.inl ⟨rfl, ?_, (if_neg h0).trans ((if_neg h1).trans (if_neg h2))⟩)
            bv_omega
    | down =>
      by_cases h0 : t.arrSh = 0
      · exact .inl ⟨_, if_pos h0⟩
      · by_cases h2 : t.cnt = 0
        · exact .inr (.inr (.inr (.inr ⟨rfl, h2, (if_neg h0).trans (if_pos h2)⟩)))
        · exact .inr (.inr (.inr (.inl ⟨rfl, h2, (if_neg h0).trans (if_neg h2)⟩)))

/-! ## SysTick -/

/-- Everything the SysTick handler can do. -/
theorem stHandler_cases (s : State) :
    (s.st.slot = none ∧ stHandler s = raise .noCallback s) ∨
    (∃ cb, s.st.slot = some ⟨.singleShot, cb⟩ ∧
      stHandler s = modifySt (fun st => { st with countflag := false }) (emit (.callback .st 0 cb)
        (modifySt (fun st => { st with tickint := false, enable := false, load := 0, val := 0 }) s))) ∨
    (∃ cb, s.st.slot = some ⟨.periodic, cb⟩ ∧
      stHandler s = modifySt (fun st => { st with countflag := false }) (emit (.callback .st 0 cb) s)) := by
  rcases h : s.st.slot with _ | ⟨_ | _, cb⟩
  · exact .inl ⟨rfl, by unfold stHandler; rw [h]⟩
  · exact .inr (.inl ⟨cb, rfl, by unfold stHandler; rw [h]⟩)
  · exact .inr (.inr ⟨cb, rfl, by unfold stHandler; rw [h]⟩)

/-- Everything one tick of SysTick can do before the foreground is checked. -/
theorem stCount_cases (s : State) :
    (s.st.enable = false ∧ stCount s = s) ∨
    (s.st.enable = true ∧
      ((s.st.val = 0 ∧ stCount s = modifySt (fun st => { st with val := st.load }) s) ∨
       (s.st.val ≠ 0 ∧ s.st.val ≠ 1 ∧ stCount s = modifySt (fun st => { st with val := st.val - 1 }) s) ∨
       (s.st.val = 1 ∧ s.st.tickint = false ∧
         stCount s = modifySt (fun st => { st with val := 0, countflag := true }) s) ∨
       (s.st.val = 1 ∧ s.st.tickint = true ∧
         stCount s = stHandler (modifySt (fun st => { st with val := 0, countflag := true }) s)))) := by
  cases he : s.st.enable with
  | false => exact .inl ⟨rfl, by simp [stCount, he]⟩
  | true =>
    refine .inr ⟨rfl, ?_⟩
    by_cases h0 : s.st.val = 0
    · exact .inl ⟨h0, by rw [stCount, if_pos he, if_pos h0]⟩
    · refine .inr ?_
      by_cases h1 : s.st.val = 1
      · refine .inr ?_
        cases ht : s.st.tickint with
        | false => exact .inl ⟨h1, rfl, by simp [stCount, he, h1, ht, modifySt]⟩
        | true => exact .inr ⟨h1, rfl, by simp [stCount, he, h1, ht, modifySt]⟩
      · refine .inl ⟨h0, h1, ?_⟩
        have h2 : ¬ s.st.val - 1 = 0 := by bv_omega
        rw [stCount, if_pos he, if_neg h0]
        exact if_neg h2

/-! ## Edges -/

/-- Everything the edge handler can do. -/
theorem edgeHandler_cases (s : State) :
    (∃ r, edgeHandler s = raise r s) ∨
    (s.ses.state = .waitingForRisingEdge ∧ polling s.fg = true ∧
      edgeHandler s = { modifySt stStartElapsed s with ses := { s.ses with state := .waitingForFallingEdge } }) ∨
    (s.ses.state = .waitingForFallingEdge ∧
      edgeHandler s = { modifySt (fun st => { st with enable := false }) s with
        ses := { state := .done, distance := distanceOf (elapsed s.st) } }) ∨
    (s.ses.state = .done ∧ edgeHandler s = s) := by
  cases hs : s.ses.state with
  | idle => exact .inl ⟨_, by simp only [edgeHandler, hs]; rfl⟩
  | waitingForRisingEdge =>
    cases hp : polling s.fg with
    | false => exact .inl ⟨.sysTickContention, by simp [edgeHandler, hs, hp]⟩
    | true => exact .inr (.inl ⟨rfl, rfl, by simp [edgeHandler, hs, hp]⟩)
  | waitingForFallingEdge => exact .inr (.inr (.inl ⟨rfl, by simp [edgeHandler, hs]⟩))
  | done => exact .inr (.inr (.inr ⟨rfl, by simp [edgeHandler, hs]⟩))

theorem polling_eq_true {fg : Foreground} : polling fg = true ↔ ∃ i, fg = .usPoll i := by
  cases fg <;> simp [polling]

/-! ## The foreground's completions -/

/-- A round that settles at once is the whole check. -/
theorem fgCheck_of_arm {s t : State} (h : fgArm s = some t) (ht : fgArm t = none) : fgCheck s = t := by
  simp [fgCheck, fgLoop, h, ht]

/-- The check while a busy-wait runs. -/
theorem fgCheck_gptWait {s : State} {n : Fin 4} {target : Half} (hf : s.fault = none) (hfg : s.fg = .gptWait n target) :
    fgCheck s = if s.timers[n].cnt = target then busyWaitDone n s else s := by
  have h1 : fgArm s = if s.timers[n].cnt = target then some (busyWaitDone n s) else none := by
    simp only [fgArm, hf, hfg]; rfl
  by_cases h : s.timers[n].cnt = target
  · rw [if_pos h] at h1 ⊢
    exact fgCheck_of_arm h1 (fgArm_of_idle rfl)
  · rw [if_neg h] at h1 ⊢
    exact fgCheck_of_settled h1

/-- The rounds of the check while a delay runs. -/
theorem fgArm_stDelay {s : State} {rest : List Ticks} {k : Continuation} (hf : s.fault = none)
    (hfg : s.fg = .stDelay rest k) :
    fgArm s = if s.st.countflag then some (delaySegmentDone rest k s) else none := by
  simp only [fgArm, hf, hfg]

/-- The rounds of the check while a distance read polls. -/
theorem fgArm_usPoll {s : State} {i : Nat} (hf : s.fault = none) (hfg : s.fg = .usPoll i) :
    fgArm s = pollCheck i s := by
  simp only [fgArm, hf, hfg]

/-- Everything the poll check can do on a sensor that is there. -/
theorem pollCheck_cases {i : Nat} {r : Sensor} {s : State} (hr : sensorAt i s = some r) :
    (s.ses.state = .done ∧
      pollCheck i s = some (respond .ok (BitVec.ofNat 32 s.ses.distance) { s with fg := .idle })) ∨
    (s.ses.state ≠ .done ∧ elapsed s.st ≤ r.timeout ∧ pollCheck i s = none) ∨
    (s.ses.state ≠ .done ∧ r.timeout < elapsed s.st ∧ ∃ t, pollCheck i s = some t ∧ t.fg = .idle ∧
      t.ses = { s.ses with state := .idle } ∧ t.st = { s.st with enable := false } ∧
      t.extiEn = s.extiEn.set r.echoPin.toNat false r.echoPin.isLt ∧
      t.out = s.out ++ [.call (.extiDisableLine r.echoPin), .response .ok outOfRange]) := by
  unfold pollCheck
  rw [hr]
  by_cases hd : s.ses.state = .done
  · exact .inl ⟨hd, if_pos hd⟩
  · refine .inr ?_
    by_cases he : r.timeout < elapsed s.st
    · refine .inr ⟨hd, he, _, (if_neg hd).trans (if_pos he), rfl, rfl, rfl, rfl, ?_⟩
      simp [emitCall]
    · exact .inl ⟨hd, Nat.not_lt.mp he, (if_neg hd).trans (if_neg he)⟩

/-- A segment is not zero. -/
theorem segments_ne_zero {t : Nat} {l : List Ticks} (h : segments t = some l) : ∀ x ∈ l, x ≠ 0 := by
  intro x hx
  have hmax : BitVec.ofNat 24 stMaxReload ≠ 0 := by decide
  have hpos : 0 < stMaxReload := by decide
  have hlt : stMaxReload < 16777216 := by decide
  unfold segments at h
  split at h
  · cases h
  · rename_i h0
    have ofNat_ne : ∀ k : Nat, k ≠ 0 → k < 16777216 → BitVec.ofNat 24 k ≠ 0 := by
      intro k hk hk' he
      have := congrArg BitVec.toNat he
      simp at this
      omega
    split at h
    · rename_i h1
      cases h
      rw [List.mem_singleton] at hx
      rw [hx]
      exact ofNat_ne t (by omega) (by omega)
    · split at h
      · cases h
        rw [List.mem_replicate] at hx
        rw [hx.2]; exact hmax
      · rename_i h2
        cases h
        rw [List.mem_cons, List.mem_replicate] at hx
        rcases hx with rfl | hx
        · exact ofNat_ne _ h2 (Nat.lt_trans (Nat.mod_lt t hpos) hlt)
        · rw [hx.2]; exact hmax

/-! ## The events on a live block -/

theorem execGptTick_of_lt {sel : Byte} {n : Fin 4} {s : State} (h : s.Live) (hn : sel.toNat = n.val) :
    execGptTick sel s = .next (fgCheck (gptCount n s)) := by
  unfold execGptTick
  rw [event_of_live h, timerIndex?_of_lt hn]

theorem execStTick_of_live {s : State} (h : s.Live) : execStTick s = .next (fgCheck (stCount s)) := by
  unfold execStTick
  rw [event_of_live h]

theorem execExtiEdge_of_lt {line : Byte} {l : Fin 16} {s : State} (h : s.Live) (hl : line.toNat = l.val) :
    execExtiEdge line s = .next (fgCheck (deliverEdge l s)) := by
  have hlt : line.toNat < 16 := by have := l.isLt; omega
  have he : (⟨line.toNat, hlt⟩ : Fin 16) = l := Fin.ext hl
  unfold execExtiEdge
  rw [event_of_live h, dif_pos hlt, he]

end Sys2Proof.Machine
end

