-- ==== Sys2Proof/Laws/PerInstr.lean ====
section
/-! SUPPORT. The per-instruction family `FrameShape`: the frame of an instruction is as long as its opcode's format says,
and its first word carries the opcode (30_encoding.md R80, R82, R89, R90). One lemma per constructor. -/

namespace Sys2Proof.Laws.FrameShape

/-- The frame's words: as many as the format of its opcode (one, for an event), the first of them carrying the opcode. -/
def Statement (i : Instr) : Prop :=
  (encode i).head?.map opField = some i.op ∧
  match i.port with
  | .command => (formatOf i.op).map formatWords = some (encode i).length
  | .event => isEventOp i.op = true ∧ (encode i).length = 1

theorem gptInit (t : Byte) (arr : Half) (unit dir : BitVec 2) (arpe uie : Bool) (ckd : BitVec 2) : Statement (.gptInit t arr unit dir arpe uie ckd) :=
  ⟨congrArg some (opField_headerWord _ _ _), rfl⟩

theorem gptEnable (t : Byte) : Statement (.gptEnable t) :=
  ⟨congrArg some (opField_headerWord _ _ _), rfl⟩

theorem gptDisable (t : Byte) : Statement (.gptDisable t) :=
  ⟨congrArg some (opField_headerWord _ _ _), rfl⟩

theorem gptSetPrescaler (t : Byte) (psc : Half) : Statement (.gptSetPrescaler t psc) :=
  ⟨congrArg some (opField_headerWord _ _ _), rfl⟩

theorem gptSetPeriod (t : Byte) (arr : Half) : Statement (.gptSetPeriod t arr) :=
  ⟨congrArg some (opField_headerWord _ _ _), rfl⟩

theorem gptSetCountDirection (t : Byte) (dir : Half) : Statement (.gptSetCountDirection t dir) :=
  ⟨congrArg some (opField_headerWord _ _ _), rfl⟩

theorem gptSetArrBuffer (t : Byte) (on : Half) : Statement (.gptSetArrBuffer t on) :=
  ⟨congrArg some (opField_headerWord _ _ _), rfl⟩

theorem gptSetInterrupt (t : Byte) (on : Half) : Statement (.gptSetInterrupt t on) :=
  ⟨congrArg some (opField_headerWord _ _ _), rfl⟩

theorem gptBusyWait (t : Byte) (tickType : Half) (ticks : Word) : Statement (.gptBusyWait t tickType ticks) :=
  ⟨congrArg some (opField_headerWord _ _ _), rfl⟩

theorem gptSetIntervalSingle (t : Byte) (tickType : Half) (ticks cb : Word) : Statement (.gptSetIntervalSingle t tickType ticks cb) :=
  ⟨congrArg some (opField_headerWord _ _ _), rfl⟩

theorem gptSetIntervalPeriodic (t : Byte) (tickType : Half) (ticks cb : Word) : Statement (.gptSetIntervalPeriodic t tickType ticks cb) :=
  ⟨congrArg some (opField_headerWord _ _ _), rfl⟩

theorem gptGetRemainingTime (t : Byte) : Statement (.gptGetRemainingTime t) :=
  ⟨congrArg some (opField_headerWord _ _ _), rfl⟩

theorem gptGetCounterValue (t : Byte) : Statement (.gptGetCounterValue t) :=
  ⟨congrArg some (opField_headerWord _ _ _), rfl⟩

theorem gptPwmInit (t : Byte) (arr : Half) (channel mode : Byte) (freq : Word) : Statement (.gptPwmInit t arr channel mode freq) :=
  ⟨congrArg some (opField_headerWord _ _ _), rfl⟩

theorem gptSetDutyCycle (t channel percent : Byte) : Statement (.gptSetDutyCycle t channel percent) :=
  ⟨congrArg some (opField_headerWord _ _ _), rfl⟩

theorem gptPwmDeinit (t : Byte) (channel : Half) : Statement (.gptPwmDeinit t channel) :=
  ⟨congrArg some (opField_headerWord _ _ _), rfl⟩

theorem stInit (clk : Half) : Statement (.stInit clk) :=
  ⟨congrArg some (opField_headerWord _ _ _), rfl⟩

theorem stInitReload (clk : Half) (reload : Word) : Statement (.stInitReload clk reload) :=
  ⟨congrArg some (opField_headerWord _ _ _), rfl⟩

theorem stSetReload (reload : Word) : Statement (.stSetReload reload) :=
  ⟨congrArg some (opField_headerWord _ _ _), rfl⟩

theorem stStart : Statement .stStart :=
  ⟨congrArg some (opField_headerWord _ _ _), rfl⟩

theorem stStop : Statement .stStop :=
  ⟨congrArg some (opField_headerWord _ _ _), rfl⟩

theorem stReset : Statement .stReset :=
  ⟨congrArg some (opField_headerWord _ _ _), rfl⟩

theorem stGetRemaining : Statement .stGetRemaining :=
  ⟨congrArg some (opField_headerWord _ _ _), rfl⟩

theorem stGetElapsed : Statement .stGetElapsed :=
  ⟨congrArg some (opField_headerWord _ _ _), rfl⟩

theorem stDelayUs (us : Word) : Statement (.stDelayUs us) :=
  ⟨congrArg some (opField_headerWord _ _ _), rfl⟩

theorem stDelayMs (ms : Word) : Statement (.stDelayMs ms) :=
  ⟨congrArg some (opField_headerWord _ _ _), rfl⟩

theorem stSetIntervalSingle (us cb : Word) : Statement (.stSetIntervalSingle us cb) :=
  ⟨congrArg some (opField_headerWord _ _ _), rfl⟩

theorem stSetIntervalPeriodic (us cb : Word) : Statement (.stSetIntervalPeriodic us cb) :=
  ⟨congrArg some (opField_headerWord _ _ _), rfl⟩

theorem usInit (id : Byte) (range : Half) (echoPin echoPort trigPin trigPort : Nibble) : Statement (.usInit id range echoPin echoPort trigPin trigPort) :=
  ⟨congrArg some (opField_headerWord _ _ _), rfl⟩

theorem usReadDistance (id : Byte) : Statement (.usReadDistance id) :=
  ⟨congrArg some (opField_headerWord _ _ _), rfl⟩

theorem usSetRange (id : Byte) (cm : Half) : Statement (.usSetRange id cm) :=
  ⟨congrArg some (opField_headerWord _ _ _), rfl⟩

theorem usSetState (id : Byte) (state : Half) : Statement (.usSetState id state) :=
  ⟨congrArg some (opField_headerWord _ _ _), rfl⟩

theorem gptTick (t : Byte) : Statement (.gptTick t) :=
  ⟨congrArg some (opField_headerWord _ _ _), ⟨rfl, rfl⟩⟩

theorem stTick : Statement .stTick :=
  ⟨congrArg some (opField_headerWord _ _ _), ⟨rfl, rfl⟩⟩

theorem extiEdge (line : Byte) : Statement (.extiEdge line) :=
  ⟨congrArg some (opField_headerWord _ _ _), ⟨rfl, rfl⟩⟩

end Sys2Proof.Laws.FrameShape
end

