-- ==== Sys2Proof/Tests/Slice0.lean ====
section
/-! SUPPORT. Tests on fixed values. The expected results are the vectors of spec/95_test_vectors.md and the encodings of
spec/30_encoding.md, cited at each test; `witness_<Name>` shows that the hypotheses of the statement `<Name>` can be
met. -/

namespace Sys2Proof.Tests

open Sys2Proof.Machine

/-! ## Helpers -/

/-- The step went on. -/
def goesOn (r : Result) : Bool :=
  match r with
  | .next _ => true
  | .fault _ => false
  | .refused _ => false

/-- The state after one input, `s` itself where the step stops. -/
def after (i : Instr) (s : State) : State :=
  match exec i s with
  | .next t => t
  | .fault _ => s
  | .refused _ => s

theorem next_after {i : Instr} {s : State} (h : goesOn (exec i s) = true) : exec i s = .next (after i s) := by
  unfold after
  cases hr : exec i s with
  | next t => rfl
  | fault f => simp [hr, goesOn] at h
  | refused r => simp [hr, goesOn] at h

/-- What one input emits, where the step goes on. -/
def emitted (i : Instr) (s : State) : Option (List Record) :=
  if goesOn (exec i s) then some ((after i s).out.drop s.out.length) else none

/-- The reset state with timer `n` as given. -/
def withTimer (n : Fin 4) (t : Timer) : State := State.reset.putTimer n t

/-- An initialised timer that shows `cnt` of `arr`. -/
def counting (arr cnt : Half) : Timer :=
  { Timer.reset with inited := true, psc := 7, arr := arr, arrSh := arr, cnt := cnt, cen := true }

/-- Timer 0 after `GPT_INIT t=0, arr=0, unit=ms, dir=up, arpe=0, uie=0, ckd=0`. -/
def inited0 : State := withTimer 0 { Timer.reset with inited := true, psc := 7 }

/-- The reset state with SysTick as given. -/
def withSt (st : SysTick) : State := State.reset.putSt st

/-- SysTick after `ST_INIT clk=div8`. -/
def st8 : SysTick := { SysTick.reset with inited := true, clkDiv := .div8 }

/-- SysTick after `ST_INIT clk=div1`. -/
def st1 : SysTick := { SysTick.reset with inited := true, clkDiv := .div1 }

/-- SysTick counting, at `val` of `load`. -/
def running (load val : Ticks) : SysTick := { st8 with enable := true, load := load, val := val }

/-- SysTick with a periodic interval armed, as after vector VT8's arming. -/
def armed (val : Ticks) : SysTick :=
  { running 4 val with tickint := true, slot := some { mode := .periodic, cb := 0x20000301 } }

/-- The sensor of program P3. -/
def sensor0 : Sensor :=
  { echoPin := 6, echoPort := 0, trigPin := 7, trigPort := 0, range := 50, timeout := 2943, enabled := true }

/-- Sensor 0 initialised as in program P3. -/
def withSensor : State :=
  { withSt st8 with sensors := [some sensor0, none, none], extiReg := (Vector.replicate 16 false).set 6 true }

/-- A read of sensor 0 that polls, line 6 enabled. -/
def polled (ses : SessionState) (val : Ticks) : State :=
  { withSensor.putSt (running 0xFFFFFF val) with
    fg := .usPoll 0, ses := { state := ses, distance := 0 }, extiEn := (Vector.replicate 16 false).set 6 true }

/-- The command port presents these words. -/
def onCommand (s : State) (ws : List Word) : State := { s with input := [{ port := .command, words := ws }] }

/-- The event port presents this word. -/
def onEvent (s : State) (w : Word) : State := { s with input := [{ port := .event, words := [w] }] }

/-- What one step emits, where it goes on and the block holds no fault afterwards. -/
def answered (s : State) : Option (List Record) :=
  match step s with
  | .next t => if t.fault = none then some (t.out.drop s.out.length) else none
  | .fault _ => none
  | .refused _ => none

/-- The response `(status, 0)` alone. -/
def only (status : Status) : Option (List Record) := some [.response status 0]

/-! ## WellFormed (30_encoding.md R90) -/

theorem test_wellFormed_refuses_timer_4 : (Instr.gptTick 4).wellFormed = false := by decide
theorem test_wellFormed_refuses_line_16 : (Instr.extiEdge 16).wellFormed = false := by decide
theorem test_wellFormed_accepts_the_last :
    (Instr.gptTick 3).wellFormed = true ∧ (Instr.extiEdge 15).wellFormed = true := by decide

/-! ## Decoding (95_test_vectors.md section 2.1, the words as its table writes them) -/

/-- The decoder reads this command from these words. -/
def reads (ws : List Word) (i : Instr) : Bool :=
  match decodeFrame .command ws with
  | .ok j => i == j
  | .error _ => false

/-- The decoder reads this event from this word. -/
def readsEvent (w : Word) (i : Instr) : Bool :=
  match decodeFrame .event [w] with
  | .ok j => i == j
  | .error _ => false

/-- The decoder rejects these words. -/
def rejects (p : Port) (ws : List Word) (r : Reject) : Bool :=
  match decodeFrame p ws with
  | .ok _ => false
  | .error e => e == r

theorem test_decode_gpt_config :
    reads [0x100003E7, 0x00000000] (.gptInit 0 999 0 0 false false 0) = true ∧
    reads [0x10000000, 0x00000004] (.gptInit 0 0 0 1 false false 0) = true ∧
    reads [0x1000000A, 0x000000B1] (.gptInit 0 10 1 0 true true 2) = true ∧
    reads [0x11000000] (.gptEnable 0) = true ∧ reads [0x12010000] (.gptDisable 1) = true ∧
    reads [0x13001F3F] (.gptSetPrescaler 0 7999) = true ∧ reads [0x14001388] (.gptSetPeriod 0 5000) = true ∧
    reads [0x15000001] (.gptSetCountDirection 0 1) = true ∧ reads [0x16000001] (.gptSetArrBuffer 0 1) = true ∧
    reads [0x17000000] (.gptSetInterrupt 0 0) = true ∧ reads [0x1B000000] (.gptGetRemainingTime 0) = true ∧
    reads [0x1C000000] (.gptGetCounterValue 0) = true := by decide

theorem test_decode_gpt_interval :
    reads [0x180203E8, 0x00000002] (.gptBusyWait 2 1000 2) = true ∧
    reads [0x19000001, 0x00000005, 0x20000101] (.gptSetIntervalSingle 0 1 5 0x20000101) = true ∧
    reads [0x1A010001, 0x00000003, 0x20000201] (.gptSetIntervalPeriodic 1 1 3 0x20000201) = true := by decide

theorem test_decode_gpt_pwm :
    reads [0x1D0303E7, 0x00000002, 0x000003E8] (.gptPwmInit 3 999 2 0 1000) = true ∧
    reads [0x1D0303E7, 0x00000104, 0x000003E8] (.gptPwmInit 3 999 4 1 1000) = true ∧
    reads [0x1E030232] (.gptSetDutyCycle 3 2 50) = true ∧ reads [0x1F030002] (.gptPwmDeinit 3 2) = true := by decide

theorem test_decode_systick :
    reads [0x40000000] (.stInit 0) = true ∧ reads [0x40000001] (.stInit 1) = true ∧
    reads [0x41000000, 0x000003E8] (.stInitReload 0 1000) = true ∧
    reads [0x42000000, 0x00000014] (.stSetReload 20) = true ∧ reads [0x43000000] .stStart = true ∧
    reads [0x44000000] .stStop = true ∧ reads [0x45000000] .stReset = true ∧
    reads [0x46000000] .stGetRemaining = true ∧ reads [0x47000000] .stGetElapsed = true ∧
    reads [0x48000000, 0x0000000A] (.stDelayUs 10) = true ∧ reads [0x49000000, 0x00001388] (.stDelayMs 5000) = true ∧
    reads [0x4A000000, 0x00000003, 0x20000401] (.stSetIntervalSingle 3 0x20000401) = true ∧
    reads [0x4B000000, 0x00000004, 0x20000301] (.stSetIntervalPeriodic 4 0x20000301) = true := by decide

theorem test_decode_ultrasonic :
    reads [0x60000032, 0x00000706] (.usInit 0 50 6 0 7 0) = true ∧
    reads [0x60010002, 0x00000D1C] (.usInit 1 2 12 1 13 0) = true ∧
    reads [0x61000000] (.usReadDistance 0) = true ∧ reads [0x62000190] (.usSetRange 0 400) = true ∧
    reads [0x63000000] (.usSetState 0 0) = true := by decide

theorem test_decode_events :
    readsEvent 0x80020000 (.gptTick 2) = true ∧ readsEvent 0x81000000 .stTick = true ∧
    readsEvent 0x82060000 (.extiEdge 6) = true := by decide

theorem test_decode_unassigned_opcodes :
    rejects .command [0x00000000] .illegalOpcode = true ∧ rejects .command [0x4C000000] .illegalOpcode = true ∧
    rejects .command [0x64000000] .illegalOpcode = true ∧ rejects .command [0x80000000] .illegalOpcode = true := by decide

theorem test_decode_reserved_fields :
    rejects .command [0x11000001] .reservedField = true ∧
    rejects .command [0x10000000, 0x00000100] .reservedField = true ∧
    rejects .command [0x10040000, 0x00000100] .reservedField = true ∧
    rejects .command [0x1D0303E7, 0x00010002, 0x000003E8] .reservedField = true ∧
    rejects .command [0x40010000] .reservedField = true ∧ rejects .command [0x43000001] .reservedField = true ∧
    rejects .command [0x60000000, 0x00010000] .reservedField = true ∧
    rejects .command [0x61000001] .reservedField = true := by decide

theorem test_decode_other_events :
    rejects .event [0x80040000] .notAnEvent = true ∧ rejects .event [0x81010000] .notAnEvent = true ∧
    rejects .event [0x82100000] .notAnEvent = true ∧ rejects .event [0x80000001] .notAnEvent = true ∧
    rejects .event [0x83000000] .notAnEvent = true := by decide

/-- 20_memory.md R63. -/
theorem test_decode_short_frame :
    rejects .command [0x10000000] .incomplete = true ∧
    rejects .command [0x19000001, 0x00000005] .incomplete = true := by decide

/-- The bit numbering of spec/opcode_table.json: word 0 lowest. -/
theorem test_table_words :
    decodeTableWord 32 0x11000000 = some (.gptEnable 0) ∧
    decodeTableWord 64 0x000000B11000000A = some (.gptInit 0 10 1 0 true true 2) ∧
    decodeTableWord 96 0x200001010000000519000001 = some (.gptSetIntervalSingle 0 1 5 0x20000101) ∧
    decodeTableWord 32 0x82060000 = some (.extiEdge 6) ∧ decodeTableWord 32 0x4C000000 = none := by decide

/-- The response frames of 95_test_vectors.md section 2.1. -/
theorem test_response_frames :
    responseFrame .ok 17000 = [0x00000000, 0x00004268] ∧ responseFrame .failParam 0 = [0x00000001, 0x00000000] ∧
    responseFrame .failConfig 0 = [0x00000002, 0x00000000] ∧ responseFrame .illegal 0 = [0x00000003, 0x00000000] ∧
    responseFrame .ok outOfRange = [0x00000000, 0xFFFFFFFF] ∧
    responseFrame .ok disabledValue = [0x00000000, 0xFFFFFFFE] := by decide

/-- 20_memory.md R62: least significant byte first. -/
theorem test_frame_bytes : frameBytes [0x1000000A, 0x000000B1] = [0x0A, 0x00, 0x00, 0x10, 0xB1, 0x00, 0x00, 0x00] := by
  decide

/-- The texts of 95_test_vectors.md section 2.1 (30_encoding.md R98), the numbers in decimal (log 18). -/
theorem test_text :
    asmText (.gptInit 0 10 1 0 true true 2) = "GPT_INIT t=0, arr=10, unit=s, dir=up, arpe=1, uie=1, ckd=2" ∧
    asmText (.gptSetCountDirection 0 1) = "GPT_SET_COUNT_DIRECTION t=0, dir=down" ∧
    asmText (.stInit 1) = "ST_INIT clk=div8" ∧ asmText .stTick = "ST_TICK" := by decide

/-! ## The computations -/

/-- The quotient minus one of the prescaler, as a number. -/
def psc (fPclk : Nat) (u : TimeUnit) : Option Nat := (prescaler { Config.reference with fPclk := fPclk } u).map BitVec.toNat

/-- The table of 95_test_vectors.md section 2.2. -/
theorem test_prescaler_milliseconds :
    psc 8000000 .milliseconds = some 7 ∧ psc 72000000 .milliseconds = some 71 ∧
    psc 1500000 .milliseconds = some 0 ∧ psc 999999 .milliseconds = none := by decide

/-- The table of 95_test_vectors.md section 2.2. -/
theorem test_prescaler_seconds :
    psc 8000000 .seconds = some 7999 ∧ psc 72000000 .seconds = none ∧ psc 65536000 .seconds = some 65535 ∧
    psc 65537000 .seconds = none ∧ psc 999999 .seconds = some 998 ∧ psc 999 .seconds = none := by decide

/-- Vector VG9. -/
theorem test_reload :
    reloadOf 5 1 = some 5 ∧ reloadOf 2 1000 = some 2000 ∧ reloadOf 65 1000 = some 65000 ∧
    reloadOf 65535 1 = some 65535 ∧ reloadOf 66 1000 = none ∧ reloadOf 0 1 = none ∧ reloadOf 65536 1 = none := by decide

/-- The table of 95_test_vectors.md section 2.4. -/
theorem test_compare_value :
    compareValue 999 0 = 0 ∧ compareValue 999 50 = 499 ∧ compareValue 999 100 = 999 ∧
    compareValue 65535 100 = 65535 ∧ compareValue 65535 99 = 64879 ∧ compareValue 65535 1 = 655 ∧
    compareValue 100 33 = 33 ∧ compareValue 7 50 = 3 ∧ compareValue 3 67 = 2 ∧ compareValue 1 99 = 0 := by decide

/-- Vector VT3. -/
theorem test_tick_conversions :
    usToTicks Config.reference .div8 10 = 10 ∧ msToTicks Config.reference .div8 5 = 5000 ∧
    usToTicks Config.reference .div1 10 = 80 ∧ msToTicks Config.reference .div1 5000 = 40000000 ∧
    ticksPerUs { Config.reference with fAhb := 72000000 } .div8 = 9 ∧
    ticksPerMs { Config.reference with fAhb := 72000000 } .div1 = 72000 := by decide

/-- The table of 95_test_vectors.md section 2.6. -/
theorem test_segments :
    segments 0 = none ∧ segments 1 = some [1] ∧ segments 16777215 = some [16777215] ∧
    segments 16777216 = some [1, 16777215] ∧ segments 33554430 = some [16777215, 16777215] ∧
    segments 40000000 = some [6445570, 16777215, 16777215] ∧ segments 4294967296 = none := by decide

/-- The table of 95_test_vectors.md section 2.7. -/
theorem test_timeout_and_distance :
    timeoutTicks 0 = 1 ∧ timeoutTicks 1 = 59 ∧ timeoutTicks 2 = 118 ∧ timeoutTicks 50 = 2943 ∧
    timeoutTicks 400 = 23537 ∧ timeoutTicks 65535 = 3856211 ∧
    distanceOf 7 = 119 ∧ distanceOf 2943 = 50031 ∧ distanceOf 16777215 = 285212655 := by decide

/-- The vectors of 95_test_vectors.md section 2.7. -/
theorem test_vector :
    irqVector 0 = .exti0 ∧ irqVector 4 = .exti4 ∧ irqVector 5 = .exti9_5 ∧ irqVector 9 = .exti9_5 ∧
    irqVector 10 = .exti15_10 ∧ irqVector 15 = .exti15_10 := by decide

/-! ## One step of each instruction (95_test_vectors.md sections 2.1 to 2.7) -/

/-- VG2: the write of ARR used the old ARPE. -/
theorem test_gpt_init :
    (after (.gptInit 0 10 1 0 true true 2) State.reset).timers[0].psc = 7999 ∧
    (after (.gptInit 0 10 1 0 true true 2) State.reset).timers[0].arrSh = 10 := by decide

/-- The refusals of section 2.1, in the order of their checks. -/
theorem test_gpt_init_checks :
    answered (onCommand State.reset [0x10040000, 0x00000002]) = only .failParam ∧
    answered (onCommand State.reset [0x10000000, 0x0000000C]) = only .failParam ∧
    answered (onCommand State.reset [0x10000000, 0x000000C0]) = only .failParam ∧
    answered (onCommand State.reset [0x10000000, 0x00000002]) = only .failConfig := by decide

theorem test_gpt_enable : (after (.gptEnable 0) inited0).timers[0].cen = true ∧ emitted (.gptEnable 0) inited0 = only .ok := by
  decide

theorem test_gpt_enable_checks :
    emitted (.gptEnable 4) State.reset = only .failParam ∧
    (after (.gptEnable 0) State.reset).fault = some .notInitialised := by decide

/-- VG13. -/
theorem test_gpt_disable :
    (after (.gptDisable 1) (withTimer 1 { counting 3 0 with uie := true })).timers[1] =
      { counting 3 0 with uie := true, cen := false } := by decide

theorem test_gpt_set_prescaler : (after (.gptSetPrescaler 0 7999) inited0).timers[0].psc = 7999 := by decide

/-- VG3: buffered, the shadow stays. -/
theorem test_gpt_set_period :
    (after (.gptSetPeriod 0 5) (withTimer 0 { counting 10 0 with arpe := true })).timers[0].arr = 5 ∧
    (after (.gptSetPeriod 0 5) (withTimer 0 { counting 10 0 with arpe := true })).timers[0].arrSh = 10 := by decide

/-- VG5. -/
theorem test_gpt_set_count_direction :
    (after (.gptSetCountDirection 0 2) inited0).timers[0].dir = .center ∧
    emitted (.gptSetCountDirection 0 3) inited0 = only .failParam := by decide

theorem test_gpt_set_arr_buffer :
    (after (.gptSetArrBuffer 0 1) inited0).timers[0].arpe = true ∧
    emitted (.gptSetArrBuffer 0 2) inited0 = only .failParam := by decide

/-- VG7. -/
theorem test_gpt_set_interrupt :
    (after (.gptSetInterrupt 0 1) (withTimer 0 { counting 2 0 with uif := true })).fault = some .staleUpdateFlag ∧
    emitted (.gptSetInterrupt 0 2) inited0 = only .failParam := by decide

/-- VG4. -/
theorem test_gpt_get_remaining_time :
    emitted (.gptGetRemainingTime 0) (withTimer 0 (counting 5000 3)) = some [.response .ok 4997] ∧
    (after (.gptGetRemainingTime 0) (withTimer 0 (counting 1 3))).fault = some .remainingUndefined := by decide

/-- VG4. -/
theorem test_gpt_get_counter_value :
    emitted (.gptGetCounterValue 0) (withTimer 0 (counting 5000 3)) = some [.response .ok 3] := by decide

/-- P1c and VG9. -/
theorem test_gpt_busy_wait :
    (after (.gptBusyWait 0 1000 2) inited0).fg = .gptWait 0 1999 ∧
    (after (.gptBusyWait 0 1000 66) inited0).fault = some .reloadRange ∧
    emitted (.gptBusyWait 0 7 5) inited0 = only .failParam := by decide

/-- VG12. -/
theorem test_gpt_busy_wait_at_once :
    emitted (.gptBusyWait 0 1 1) inited0 = only .ok ∧ (after (.gptBusyWait 0 1 1) inited0).timers[0].cen = false := by
  decide

/-- VG9 and section 2.1. -/
theorem test_gpt_set_interval_single :
    (after (.gptSetIntervalSingle 0 1 65535 1) inited0).timers[0].arr = 65535 ∧
    (after (.gptSetIntervalSingle 0 1 65536 1) inited0).fault = some .reloadRange ∧
    emitted (.gptSetIntervalSingle 0 1 5 0) inited0 = only .failParam := by decide

/-- VG11: the counter is not cleared. -/
theorem test_gpt_set_interval_periodic :
    (after (.gptSetIntervalPeriodic 0 1 4 0xB2) (withTimer 0 (counting 5 3))).timers[0].slot =
      some { mode := .periodic, cb := 0xB2 } ∧
    (after (.gptSetIntervalPeriodic 0 1 4 0xB2) (withTimer 0 (counting 5 3))).timers[0].cnt = 3 := by decide

/-- VW1. -/
theorem test_gpt_pwm_init :
    ((after (.gptPwmInit 3 999 2 0 1000) (withTimer 3 (counting 0 5))).timers[3].channels[1]).ocm = .pwmA ∧
    (after (.gptPwmInit 3 999 2 0 1000) (withTimer 3 (counting 0 5))).timers[3].arrSh = 999 := by decide

/-- VW2 and section 2.1. -/
theorem test_gpt_pwm_init_checks :
    (after (.gptPwmInit 3 999 2 0 1000) (withTimer 3 { counting 0 0 with uie := true })).fault =
      some .forcedUpdateWithUie ∧
    emitted (.gptPwmInit 3 999 0 0 1000) (withTimer 3 (counting 0 0)) = only .failParam ∧
    emitted (.gptPwmInit 3 999 2 2 1000) (withTimer 3 (counting 0 0)) = only .failParam := by decide

/-- VW1. -/
theorem test_gpt_set_duty_cycle :
    ((after (.gptSetDutyCycle 3 2 50) (withTimer 3 (counting 999 0))).timers[3].channels[1]).ccr = 499 ∧
    emitted (.gptSetDutyCycle 3 2 101) (withTimer 3 (counting 999 0)) = only .failParam ∧
    emitted (.gptSetDutyCycle 3 5 50) (withTimer 3 (counting 999 0)) = only .failParam := by decide

/-- A channel in use. -/
def usedChannel : Channel := { ccr := 999, ocm := .pwmA, cce := true, ccp := true }

/-- VW1: the compare value stays. -/
theorem test_gpt_pwm_deinit :
    (after (.gptPwmDeinit 3 2) (withTimer 3 ((counting 999 0).putChannel 1 usedChannel))).timers[3].channels[1] =
      { ccr := 999, ocm := .off, cce := false, ccp := false } ∧
    emitted (.gptPwmDeinit 3 0x0102) (withTimer 3 (counting 999 0)) = only .failParam := by decide

/-- VG3, tick 11: the wrap loads the shadow and sets the flag; so it does in a busy-wait whose target does not lie above the
shadow (R143, R145), and where it does the count still wraps (R316). -/
theorem test_gpt_tick_wraps :
    (after (.gptTick 0) (withTimer 0 { counting 10 10 with arr := 5, arpe := true })).timers[0] =
      { counting 5 0 with arpe := true, uif := true } ∧
    (after (.gptTick 0) (withTimer 0 (counting 10 9))).timers[0].cnt = 10 ∧
    (after (.gptTick 0)
      { withTimer 0 { counting 5 5 with arr := 3, arpe := true } with fg := .gptWait 0 2 }).timers[0].arrSh = 3 ∧
    (after (.gptTick 0)
      { withTimer 0 { counting 2 2 with arr := 5, arpe := true } with fg := .gptWait 0 4 }).timers[0].cnt = 0 := by
  decide

/-- VG5, VG6, VG8 and VG11. -/
theorem test_gpt_tick_faults :
    (after (.gptTick 0) (withTimer 0 { counting 5 0 with dir := .center })).fault = some .centerAligned ∧
    (after (.gptTick 0) (withTimer 0 (counting 0 0))).fault = some .zeroReloadCount ∧
    (after (.gptTick 0) (withTimer 0 { counting 2 2 with uie := true })).fault = some .noCallback ∧
    (after (.gptTick 0) (withTimer 0 (counting 2 3))).fault = some .counterAboveReload := by decide

/-- VT11: the slot and OVW stay. -/
theorem test_st_init :
    (after (.stInit 1) (withSt { armed 2 with ovw := true })).st =
      { st8 with slot := some { mode := .periodic, cb := 0x20000301 }, ovw := true } ∧
    emitted (.stInit 2) State.reset = only .failConfig := by decide

/-- VT1 and section 2.1. -/
theorem test_st_init_reload :
    (after (.stInitReload 0 1000) State.reset).st = { st1 with load := 1000, val := 1000 } ∧
    emitted (.stInitReload 2 0x01000000) State.reset = only .failParam ∧
    emitted (.stInitReload 2 1000) State.reset = only .failConfig := by decide

theorem test_st_set_reload :
    (after (.stSetReload 20) (withSt (running 1000 600))).st = running 20 20 ∧
    emitted (.stSetReload 0x01000000) (withSt st1) = only .failParam := by decide

theorem test_st_start :
    (after .stStart (withSt st8)).st.enable = true ∧ (after .stStart State.reset).fault = some .notInitialised := by decide

theorem test_st_stop : (after .stStop (withSt (running 1000 600))).st = { running 1000 600 with enable := false } := by
  decide

theorem test_st_reset :
    (after .stReset (withSt { running 1000 600 with countflag := true })).st = running 0 0 := by decide

theorem test_st_get_remaining :
    emitted .stGetRemaining (withSt (running 1000 600)) = some [.response .ok 600] := by decide

theorem test_st_get_elapsed : emitted .stGetElapsed (withSt (running 1000 600)) = some [.response .ok 400] := by decide

/-- VT4 and VT5. -/
theorem test_st_delay_us :
    (after (.stDelayUs 10) (withSt st8)).st = running 10 10 ∧
    (after (.stDelayUs 10) (withSt st8)).fg = .stDelay [] .respond ∧
    (after (.stDelayUs 0) (withSt st8)).fault = some .delayRange := by decide

/-- VT6 and VT12. -/
theorem test_st_delay_us_faults :
    (after (.stDelayUs 536870912) (withSt st1)).fault = some .delayRange ∧
    (after (.stDelayUs 5) (withSt (armed 4))).fault = some .sysTickContention := by decide

/-- P2a. -/
theorem test_st_delay_ms :
    (after (.stDelayMs 5000) (withSt st1)).fg = .stDelay [16777215, 16777215] .respond ∧
    (after (.stDelayMs 5000) (withSt st1)).st.val = 6445570 := by decide

/-- VT9 and VT10. -/
theorem test_st_set_interval_single :
    (after (.stSetIntervalSingle 3 0x20000401) (withSt (armed 0))).st =
      { armed 3 with load := 3, ovw := true, slot := some { mode := .singleShot, cb := 0x20000401 } } ∧
    (after (.stSetIntervalSingle 2097152 1) (withSt st1)).fault = some .reloadRange ∧
    emitted (.stSetIntervalSingle 3 0) State.reset = only .failParam := by decide

/-- VT8. -/
theorem test_st_set_interval_periodic :
    (after (.stSetIntervalPeriodic 4 0x20000301) (withSt st8)).st = armed 4 ∧
    emitted (.stSetIntervalPeriodic 4 0x20000301) (withSt st8) = only .ok := by decide

/-- VT2: the expiry sets the flag, the next tick reloads and leaves it. -/
theorem test_st_tick :
    (after .stTick (withSt (running 3 1))).st = { running 3 0 with countflag := true } ∧
    (after .stTick (withSt { running 3 0 with countflag := true })).st = { running 3 3 with countflag := true } := by
  decide

/-- VT8, tick 4; VT4, tick 10; P4, poll tick 2944. -/
theorem test_st_tick_interrupts_and_completes :
    emitted .stTick (withSt (armed 1)) = some [.callback .st 0 0x20000301] ∧
    (after .stTick (withSt (armed 1))).st = armed 0 ∧
    emitted .stTick { withSt (running 10 1) with fg := .stDelay [] .respond } = only .ok ∧
    emitted .stTick (polled .waitingForRisingEdge 16774272) =
      some [.call (.extiDisableLine 6), .response .ok 0xFFFFFFFF] ∧
    emitted .stTick (polled .waitingForRisingEdge 16774273) = some [] := by decide

/-- VU2. -/
theorem test_us_init :
    emitted (.usInit 1 2 12 1 13 0) State.reset = some [
      .call (.rccEnablePeripheralClock (.gpioPort 1) .gpioBus), .call (.rccEnablePeripheralClock (.gpioPort 0) .gpioBus),
      .call (.gpioSetPinMode 1 12 .inputFloating), .call (.gpioSetPinMode 0 13 .outputPushPull),
      .call (.afioSetExtiPortMapping 12 1), .call (.nvicEnableIrq .exti15_10),
      .call (.extiSetCallback 12 .edgeHandler), .call (.extiSetTriggerEdge 12 .both), .response .ok 0] ∧
    (after (.usInit 1 2 12 1 13 0) State.reset).extiReg[12] = true := by decide

/-- VT12 and section 2.1. -/
theorem test_us_init_checks :
    (after (.usInit 0 50 6 0 7 0) (withSt (armed 4))).fault = some .sysTickContention ∧
    emitted (.usInit 3 0 0 0 0 0) State.reset = only .failParam := by decide

/-- P3. -/
theorem test_us_read_distance :
    emitted (.usReadDistance 0) withSensor = some [
      .call (.extiEnableLine 6), .call (.extiSetTriggerEdge 6 .both), .call (.gpioSetPinValue 0 7 .low)] ∧
    (after (.usReadDistance 0) withSensor).fg = .stDelay [] (.usTrigHigh 0) := by decide

/-- VU9, VT12 and section 2.1. -/
theorem test_us_read_distance_checks :
    emitted (.usReadDistance 0)
      ((withSensor.putSensor 0 { sensor0 with enabled := false }).putSt (armed 4)) = some [.response .ok 0xFFFFFFFE] ∧
    (after (.usReadDistance 0) (withSensor.putSt (armed 4))).fault = some .sysTickContention ∧
    (after (.usReadDistance 1) withSensor).fault = some .notInitialised := by decide

/-- VU8. -/
theorem test_us_set_range :
    sensorAt 0 (after (.usSetRange 0 400) withSensor) = some { sensor0 with range := 400, timeout := 23537 } := by decide

/-- VU9 and section 2.1. -/
theorem test_us_set_state :
    sensorAt 0 (after (.usSetState 0 0) withSensor) = some { sensor0 with enabled := false } ∧
    emitted (.usSetState 0 2) withSensor = only .failParam ∧ emitted (.usSetState 3 0) withSensor = only .failParam := by
  decide

/-- P3: the falling edge after 1000 ticks. -/
theorem test_exti_edge_falling :
    emitted (.extiEdge 6) (polled .waitingForFallingEdge 16776215) = some [.response .ok 17000] ∧
    (after (.extiEdge 6) (polled .waitingForFallingEdge 16776215)).st.enable = false := by decide

/-- P3's rising edge, VU5 and VU6. -/
theorem test_exti_edge_rising :
    (after (.extiEdge 6) (polled .waitingForRisingEdge 16776765)).st.val = 16777215 ∧
    (after (.extiEdge 6) { polled .waitingForRisingEdge 1 with fg := .stDelay [] (.usTrigHigh 0) }).fault =
      some .sysTickContention ∧
    after (.extiEdge 6) withSensor = withSensor := by decide

/-! ## The step -/

/-- P5: refusals on the port, each a step. -/
theorem test_step_answers :
    answered (onCommand State.reset [0x4C000000]) = only .illegal ∧
    answered (onCommand State.reset [0x11000001]) = only .illegal ∧
    answered (onCommand State.reset [0x11040000]) = only .failParam ∧
    answered (onCommand State.reset [0x10000000, 0x00000000]) = only .ok ∧
    answered (onEvent State.reset 0x80040000) = some [] := by decide

/-- `withFetchWord` presents a table row's frame as the very next input. -/
theorem test_withFetchWord :
    answered (State.reset.withFetchWord 64 0x000000B11000000A) = only .ok ∧
    answered (State.reset.withFetchWord 32 0x82060000) = some [] ∧
    answered (State.reset.withFetchWord 32 0x40000001) = only .ok := by decide

/-! ## Witnesses: the hypotheses of each statement can be met, each clause at a boundary -/

/-- The state after one step, `s` itself where the step stops. -/
def stepped (s : State) : State :=
  match step s with
  | .next t => t
  | .fault _ => s
  | .refused _ => s

theorem next_stepped {s : State} (h : goesOn (step s) = true) : step s = .next (stepped s) := by
  unfold stepped
  cases hr : step s with
  | next t => rfl
  | fault f => simp [hr, goesOn] at h
  | refused r => simp [hr, goesOn] at h

theorem witness_DecodeEncodeRoundTrip :
    (Instr.gptTick 3).wellFormed = true ∧ (Instr.extiEdge 15).wellFormed = true ∧
    (Instr.gptInit 255 65535 3 3 true true 3).wellFormed = true := by decide

theorem witness_AcceptedFrameIsItsEncoding :
    decodeFrame .command [0x1A010001, 0x00000003, 0x20000201] = .ok (.gptSetIntervalPeriodic 1 1 3 0x20000201) ∧
    decodeFrame .event [0x820F0000] = .ok (.extiEdge 15) := by decide

theorem witness_StepRunsDecodedInstruction :
    (onCommand State.reset [0x11000000, 0x43000000]).input = [{ port := .command, words := [0x11000000, 0x43000000] }] ∧
    decodeFrame .command [0x11000000, 0x43000000] = .ok (.gptEnable 0) ∧
    (Instr.gptTick 3).wellFormed = true ∧
    (onEvent State.reset 0x80030000).input = [{ port := (Instr.gptTick 3).port, words := encode (.gptTick 3) }] := by
  decide

/-- The first and the last opcode of each unassigned range, and each reserved field. -/
theorem witness_IllegalFramesAreAnswered :
    (onCommand State.reset [0x0F000000]).Ready ∧
    (∀ op ∈ [0x00#8, 0x0F#8, 0x20#8, 0x3F#8, 0x4C#8, 0x5F#8, 0x64#8, 0xFF#8], undefinedOp op) ∧
    reservedNonZero 0x61#8 0 1 0 ∧ reservedNonZero 0x41#8 1 0 0 ∧ reservedNonZero 0x42#8 0 1 0 ∧
    reservedNonZero 0x4B#8 0xFF 0 0 ∧ reservedNonZero 0x10#8 0 0 0x100 ∧ reservedNonZero 0x1D#8 0 0 0x10000 ∧
    reservedNonZero 0x60#8 0 0 0x80000000 ∧ formatOf 0x60#8 = some .hw ∧ formatWords .hw ≤ [0x80000000#32].length + 1 :=
  ⟨by decide, by decide, by decide, by decide, by decide, by decide, by decide, by decide, by decide, by decide,
   by decide⟩

theorem witness_OtherEventWordsAreIgnored :
    (onEvent State.reset 0x80040000).Live ∧
    ¬ eventWord 0x80040000 ∧ ¬ eventWord 0x81010000 ∧ ¬ eventWord 0x82100000 ∧ ¬ eventWord 0x80000001 ∧
    ¬ eventWord 0x83000000 ∧ ¬ eventWord 0x7F000000 :=
  ⟨by decide, by decide, by decide, by decide, by decide, by decide, by decide⟩

theorem witness_BusyForegroundTakesNoCommand :
    (polled .waitingForRisingEdge 5).Live ∧ (polled .waitingForRisingEdge 5).fg ≠ .idle ∧
    (Instr.stStart).port = .command ∧
    (onCommand (polled .waitingForRisingEdge 5) [0x43000000]).input = [{ port := .command, words := [0x43000000] }] := by
  decide

theorem witness_ShortFrameMakesNoChange :
    (onCommand State.reset [0x10000000]).Live ∧ formatOf (opField 0x10000000) = some .hw ∧
    [0x10000000#32].length < formatWords .hw ∧ formatOf (opField 0x4B000000) = some .hww ∧
    [0x4B000000#32, 0x00000004#32].length < formatWords .hww := by decide

/-- A configuration whose AHB clock is no multiple of 8 MHz, and one with no peripheral clock. -/
theorem witness_IllFormedConfigurationIsRefused :
    (State.resetWith { Config.reference with fAhb := 8000001 }).cfg.fAhb % 8000000 ≠ 0 ∧
    (State.resetWith { Config.reference with fPclk := 0 }).cfg.fPclk = 0 := by decide

theorem witness_StickyFaultStopsTheBlock :
    State.reset.fault = none ∧ (State.reset.raised .strayEdge).fault = some .strayEdge := by decide

theorem witness_ResetIsQuiet :
    wellFormedConfig Config.reference = true ∧
    wellFormedConfig { Config.reference with fPclk := 1, fAhb := 72000000 } = true := by decide

/-- Sensor 0's read after its rising edge, 5 ticks into the count. -/
theorem polled_inv : (polled .waitingForFallingEdge 16777210).Inv where
  countWithinLoad := by unfold State.CountWithinLoad; decide
  noStaleFlag := by unfold State.NoStaleFlag; decide
  tickintHasSlot := by unfold State.TickintHasSlot; decide
  handlesNonNull := by
    refine ⟨fun n => ?_, ?_⟩
    · rw [show (polled .waitingForFallingEdge 16777210).timers[n].slot = none by revert n; decide]; nofun
    · rw [show (polled .waitingForFallingEdge 16777210).st.slot = none by decide]; nofun
  sensorsConsistent := by
    refine ⟨by decide, fun i r h => ?_⟩
    have : i = 0 ∧ r = sensor0 := by
      match i, h with
      | 0, h => exact ⟨rfl, by simpa [sensorAt, polled, withSensor, withSt, State.putSt] using h.symm⟩
      | 1, h => simp [sensorAt, polled, withSensor, State.putSt] at h
      | 2, h => simp [sensorAt, polled, withSensor, State.putSt] at h
      | i + 3, h => simp [sensorAt, polled, withSensor, State.putSt] at h
    obtain ⟨rfl, rfl⟩ := this
    decide
  enabledLinesRegistered := by unfold State.EnabledLinesRegistered; decide
  distanceBounded := by unfold State.DistanceBounded; decide
  foregroundSettled := fun _ => ⟨by decide, by decide, by decide, sensor0, by decide, by decide⟩

theorem witness_StepKeepsTheInvariant :
    ∃ s t : State, s.Inv ∧ step s = .next t ∧ t.st.val ≠ s.st.val :=
  ⟨onEvent (polled .waitingForFallingEdge 16777210) 0x81000000, _,
    ⟨polled_inv.1, polled_inv.2, polled_inv.3, polled_inv.4, polled_inv.5, polled_inv.6, polled_inv.7, polled_inv.8⟩,
    next_stepped (by decide), by decide⟩

/-- A state where every clause has something to keep. -/
def everything : State :=
  { withSensor.putTimer 0 { counting 5 3 with slot := some { mode := .periodic, cb := 1 } } with
    st := { armed 2 with ovw := true }, input := [{ port := .command, words := [0x43000000] }] }

theorem witness_StepNeverUndoesInitialisation :
    ∃ t : State, step everything = .next t ∧ everything.timers[(0 : Fin 4)].inited = true ∧
      everything.timers[(0 : Fin 4)].slot.isSome = true ∧ everything.st.inited = true ∧ everything.st.ovw = true ∧
      everything.st.slot.isSome = true ∧ (sensorAt 0 everything).isSome = true ∧
      everything.extiReg[(6 : Fin 16)] = true :=
  ⟨_, next_stepped (by decide), by decide⟩

theorem witness_StepOnlyAppendsToTheTrace : ∃ t : State, step everything = .next t ∧ t.out ≠ everything.out :=
  ⟨_, next_stepped (by decide), by decide⟩

theorem witness_TimersAreIndependent :
    (∃ t : State, inited0.ForegroundSettled ∧ exec (.gptEnable 0) inited0 = .next t ∧
      gptTarget (.gptEnable 0) = some 0 ∧ (0 : Byte).toNat ≠ (3 : Fin 4).val ∧ t ≠ inited0) ∧
    ∃ t : State, (withSt st8).ForegroundSettled ∧ exec .stStart (withSt st8) = .next t ∧ gptTarget .stStart = none :=
  ⟨⟨_, fun _ => Or.inl rfl, next_after (by decide), by decide⟩, ⟨_, fun _ => Or.inl rfl, next_after (by decide), rfl⟩⟩

theorem witness_CallbacksOnlyInTickEvents :
    ∃ t : State, Instr.stStart ≠ .stTick ∧ (∀ n : Byte, Instr.stStart ≠ .gptTick n) ∧
      exec .stStart (withSt st8) = .next t ∧ t.out.drop (withSt st8).out.length ≠ [] :=
  ⟨_, nofun, nofun, next_after (by decide), by decide⟩

/-- A transition of each line of the table. -/
theorem witness_SessionFollowsItsTable :
    (∃ t : State, withSensor.ForegroundSettled ∧ exec (.usReadDistance 0) withSensor = .next t ∧
      t.ses.state ≠ withSensor.ses.state) ∧
    (∃ t : State, (polled .waitingForRisingEdge 16777210).ForegroundSettled ∧
      exec (.extiEdge 6) (polled .waitingForRisingEdge 16777210) = .next t ∧ t.ses.state = .waitingForFallingEdge) ∧
    (∃ t : State, (polled .waitingForFallingEdge 16777210).ForegroundSettled ∧
      exec (.extiEdge 6) (polled .waitingForFallingEdge 16777210) = .next t ∧ t.ses.state = .done) ∧
    ∃ t : State, (polled .waitingForRisingEdge 16774272).ForegroundSettled ∧
      exec .stTick (polled .waitingForRisingEdge 16774272) = .next t ∧ t.ses.state = .idle :=
  ⟨⟨_, fun _ => Or.inl rfl, next_after (by decide), by decide⟩,
   ⟨_, fun _ => ⟨by decide, by decide, by decide, sensor0, by decide, by decide⟩, next_after (by decide), by decide⟩,
   ⟨_, fun _ => ⟨by decide, by decide, by decide, sensor0, by decide, by decide⟩, next_after (by decide), by decide⟩,
   ⟨_, fun _ => ⟨by decide, by decide, by decide, sensor0, by decide, by decide⟩, next_after (by decide), by decide⟩⟩

/-- A busy-wait for 5 on timer 0 that shows `cnt`. -/
def waiting (cnt : Half) : State := { withTimer 0 (counting 6 cnt) with fg := .gptWait 0 5 }

/-- A delay on SysTick with these segments to come, the flag as given. -/
def delaying (flag : Bool) (rest : List Ticks) (k : Continuation) : State :=
  { withSensor.putSt { running 5 0 with countflag := flag } with fg := .stDelay rest k }

/-- A clock so fast that the trigger delays of a read leave the range of a delay. -/
def fastClock : Config := { Config.reference with fAhb := 2147483648000000 }

theorem witness_FgCheckArms :
    State.reset.fault = none ∧ State.reset.fg = .idle ∧
    ((waiting 4).fg = .gptWait 0 5 ∧ (waiting 4).timers[(0 : Fin 4)].cnt ≠ 5 ∧ (waiting 5).timers[(0 : Fin 4)].cnt = 5) ∧
    (delaying false [] .respond).st.countflag = false ∧
    ((delaying true [7] .respond).fg = .stDelay [7] .respond ∧ (delaying true [7] .respond).st.countflag = true) ∧
    (delaying true [] .respond).fg = .stDelay [] .respond ∧
    ((delaying true [] (.usTrigHigh 0)).fg = .stDelay [] (.usTrigHigh 0) ∧
      sensorAt 0 (delaying true [] (.usTrigHigh 0)) = some sensor0 ∧
      segments (10 * ticksPerUs (delaying true [] (.usTrigHigh 0)).cfg (delaying true [] (.usTrigHigh 0)).st.clkDiv) =
        some [10]) ∧
    segments (10 * ticksPerUs { delaying true [] (.usTrigHigh 0) with cfg := fastClock, st := st1 }.cfg st1.clkDiv) = none ∧
    ((delaying true [] (.usTrigLow 0)).fg = .stDelay [] (.usTrigLow 0) ∧
      (delaying true [] (.usTrigLow 0)).ses.state ≠ .done) ∧
    ((polled .done 5).fg = .usPoll 0 ∧ sensorAt 0 (polled .done 5) = some sensor0 ∧ (polled .done 5).ses.state = .done) ∧
    (polled .waitingForRisingEdge 16774272).st.load.toNat - (polled .waitingForRisingEdge 16774272).st.val.toNat ≤
      sensor0.timeout ∧
    sensor0.timeout <
      (polled .waitingForRisingEdge 16774271).st.load.toNat - (polled .waitingForRisingEdge 16774271).st.val.toNat :=
  ⟨by decide, by decide, by decide, by decide, by decide, by decide, by decide, by decide, by decide, by decide,
   by decide, by decide⟩

/-- The largest prescaler quotient that fits, and the first that does not. -/
theorem witness_GptInitConfiguresTheTimer :
    State.reset.Ready ∧ 4 ≤ (4 : Byte).toNat ∧ (3 : Byte).toNat = (3 : Fin 4).val ∧
    ([CountDir.up, .down, .center][(2 : BitVec 2).toNat]? = some .center) ∧
    ([ClockDivision.ckd0, .ckd1, .ckd2][(2 : BitVec 2).toNat]? = some .ckd2) ∧
    ([1000000, 1000][(1 : BitVec 2).toNat]? = some 1000) ∧ 2 ≤ (2 : BitVec 2).toNat ∧
    (State.resetWith { Config.reference with fPclk := 65536000 }).Ready ∧ 65536000 / 1000 = 65536 ∧
    (State.resetWith { Config.reference with fPclk := 65537000 }).Ready ∧ 65536 < 65537000 / 1000 ∧
    (State.resetWith { Config.reference with fPclk := 999999 }).Ready ∧ 999999 / 1000000 = 0 ∧
    (withTimer 3 { counting 2 0 with uif := true }).Ready ∧
    (withTimer 3 { counting 2 0 with uif := true }).timers[(3 : Fin 4)].uif = true :=
  ⟨by decide, by decide, by decide, by decide, by decide, by decide, by decide, by decide, by decide, by decide,
   by decide, by decide, by decide, by decide, by decide⟩

/-- The premises the GPT statements share: a bad ordinal, the last good one, a timer initialised or not. -/
theorem witness_GptGuarded :
    inited0.Ready ∧ 4 ≤ (4 : Byte).toNat ∧ (3 : Byte).toNat < 4 ∧ (3 : Byte).toNat = (3 : Fin 4).val ∧
    inited0.timers[(3 : Fin 4)].inited = false ∧ (0 : Byte).toNat = (0 : Fin 4).val ∧
    inited0.timers[(0 : Fin 4)].inited = true := by decide

theorem witness_GptEnableAndDisableWriteCen :
    inited0.Ready ∧ (0 : Byte).toNat = (0 : Fin 4).val ∧ inited0.timers[(0 : Fin 4)].inited = true := by decide

theorem witness_GptSetPrescalerAndPeriod :
    inited0.Ready ∧ (0 : Byte).toNat = (0 : Fin 4).val ∧ inited0.timers[(0 : Fin 4)].inited = true := by decide

theorem witness_GptSetCountDirectionWritesDir :
    inited0.Ready ∧ ¬ (3 : Half).toNat < 3 ∧ inited0.timers[(0 : Fin 4)].inited = true ∧
    [CountDir.up, .down, .center][(2 : Half).toNat]? = some .center := by decide

theorem witness_GptSetArrBufferWritesArpe :
    inited0.Ready ∧ ¬ (2 : Half).toNat < 2 ∧ (1 : Half).toNat < 2 ∧ (0 : Byte).toNat = (0 : Fin 4).val ∧
    inited0.timers[(0 : Fin 4)].inited = true := by decide

theorem witness_GptSetInterruptWritesUie :
    inited0.Ready ∧ ¬ (2 : Half).toNat < 2 ∧ inited0.timers[(0 : Fin 4)].inited = true ∧
    inited0.timers[(0 : Fin 4)].uif = false ∧
    (withTimer 0 { counting 2 0 with uif := true }).Ready ∧
    (withTimer 0 { counting 2 0 with uif := true }).timers[(0 : Fin 4)].inited = true ∧
    (withTimer 0 { counting 2 0 with uif := true }).timers[(0 : Fin 4)].uif = true := by decide

/-- Remaining time at equality, just past it, downwards and center-aligned. -/
theorem witness_GptReadsAnswerAndWriteNothing :
    (withTimer 0 (counting 5 5)).Ready ∧ (withTimer 0 (counting 5 5)).timers[(0 : Fin 4)].inited = true ∧
    (withTimer 0 (counting 5 5)).timers[(0 : Fin 4)].dir = .up ∧ (5 : Half) ≤ 5 ∧ (5 : Half) < 6 ∧
    (withTimer 0 (counting 5 6)).Ready ∧
    (withTimer 0 { counting 5 6 with dir := .down }).timers[(0 : Fin 4)].dir = .down ∧
    (withTimer 0 { counting 5 6 with dir := .center }).timers[(0 : Fin 4)].dir = .center := by decide

/-- One below the reload, at it would expire, one above it. -/
theorem witness_GptTickCounts :
    (withTimer 3 (counting 5 4)).Live ∧ (3 : Byte).toNat = (3 : Fin 4).val ∧
    (withTimer 3 { counting 5 4 with cen := false }).timers[(3 : Fin 4)].cen = false ∧
    (withTimer 3 { counting 5 4 with dir := .center }).timers[(3 : Fin 4)].dir = .center ∧
    ((withTimer 3 (counting 0 0)).timers[(3 : Fin 4)].cen = true ∧
      (withTimer 3 (counting 0 0)).timers[(3 : Fin 4)].arrSh = 0) ∧
    (withTimer 3 (counting 5 6)).timers[(3 : Fin 4)].arrSh < (withTimer 3 (counting 5 6)).timers[(3 : Fin 4)].cnt ∧
    (withTimer 3 (counting 5 4)).timers[(3 : Fin 4)].cnt < (withTimer 3 (counting 5 4)).timers[(3 : Fin 4)].arrSh ∧
    ((withTimer 3 { counting 5 1 with dir := .down }).timers[(3 : Fin 4)].dir = .down ∧
      (withTimer 3 { counting 5 1 with dir := .down }).timers[(3 : Fin 4)].cnt ≠ 0) :=
  ⟨by decide, by decide, by decide, by decide, by decide, by decide, by decide, by decide⟩

/-- A timer about to expire, with these interrupt settings. -/
def expiring (dir : CountDir) (uie : Bool) (slot : Option Slot) : Timer :=
  { counting 5 (if dir = .up then 5 else 0) with dir := dir, uie := uie, slot := slot }

/-- A busy-wait of this target on timer 0. -/
def waitingFor (target : Half) (t : Timer) : State := { withTimer 0 t with fg := .gptWait 0 target }

/-- Up, down, every slot, and a wait whose target lies one above the shadow. -/
theorem witness_GptTickExpires :
    (withTimer 0 (expiring .up false none)).Live ∧ (0 : Byte).toNat = (0 : Fin 4).val ∧
    ((expiring .up false none).cen = true ∧ (expiring .up false none).arrSh ≠ 0 ∧
      (expiring .up false none).dir = .up ∧ (expiring .up false none).cnt = (expiring .up false none).arrSh) ∧
    ((expiring .down true none).dir = .down ∧ (expiring .down true none).cnt = 0 ∧
      (expiring .down true none).uie = true ∧ (expiring .down true none).slot = none) ∧
    (expiring .up true (some { mode := .singleShot, cb := 1 })).slot = some { mode := .singleShot, cb := 1 } ∧
    (expiring .up true (some { mode := .periodic, cb := 1 })).slot = some { mode := .periodic, cb := 1 } ∧
    (withTimer 0 (expiring .up true none)).timers[(0 : Fin 4)] = expiring .up true none ∧
    ((waitingFor 6 (expiring .up false none)).Live ∧
      (waitingFor 6 (expiring .up false none)).fg = .gptWait 0 6 ∧
      (waitingFor 6 (expiring .up false none)).timers[(0 : Fin 4)].arrSh < 6 ∧
      (waitingFor 6 (expiring .up false none)).timers[(0 : Fin 4)].cnt =
        (waitingFor 6 (expiring .up false none)).timers[(0 : Fin 4)].arrSh) :=
  ⟨by decide, by decide, by decide, by decide, by decide, by decide, by decide, by decide⟩

/-- Products 0, 1, 65 535 and 66 000, and a tick type outside the set. -/
theorem witness_GptBusyWaitIssue :
    inited0.Ready ∧ (1000 : Half) ∈ inited0.cfg.tickTypes ∧ ¬ (7 : Half) ∈ inited0.cfg.tickTypes ∧
    inited0.timers[(0 : Fin 4)].inited = true ∧ 0 = (0 : Word).toNat * (1 : Half).toNat ∧
    65535 < (66 : Word).toNat * (1000 : Half).toNat ∧ (65535 : Word).toNat * (1 : Half).toNat = 65535 ∧
    inited0.timers[(0 : Fin 4)].cnt.toNat ≠ 65535 - 1 ∧ (1 : Word).toNat * (1 : Half).toNat = 1 ∧
    inited0.timers[(0 : Fin 4)].cnt.toNat = 1 - 1 :=
  ⟨by decide, by decide, by decide, by decide, by decide, by decide, by decide, by decide, by decide, by decide⟩

theorem witness_GptSetIntervalArmsTheTimer :
    inited0.Ready ∧ (1 : Half) ∈ inited0.cfg.tickTypes ∧ (1 : Word) ≠ 0 ∧ inited0.timers[(0 : Fin 4)].inited = true ∧
    inited0.timers[(0 : Fin 4)].uif = false ∧ (65535 : Word).toNat * (1 : Half).toNat = 65535 ∧
    65535 < (65536 : Word).toNat * (1 : Half).toNat ∧ (0 : Word).toNat * (1 : Half).toNat = 0 ∧
    (withTimer 0 { counting 2 0 with uif := true }).timers[(0 : Fin 4)].uif = true :=
  ⟨by decide, by decide, by decide, by decide, by decide, by decide, by decide, by decide, by decide⟩

/-- Timer 0 before a buffered busy-wait: the old shadow, the direction and the count. -/
def buffered (old : Half) (dir : CountDir) (cnt : Half) : State :=
  withTimer 0 { counting old cnt with dir := dir, arpe := true }

/-- The longest product; then buffered, products 65 535 and 5 with the least and the greatest old shadow, up and down, the
start value at its bounds. -/
theorem witness_BusyWaitLastsOneTickLessThanItsProduct :
    (inited0.Ready ∧ (0 : Byte).toNat = (0 : Fin 4).val ∧ (1 : Half) ∈ inited0.cfg.tickTypes ∧
      65535 = (65535 : Word).toNat * (1 : Half).toNat ∧ inited0.timers[(0 : Fin 4)].inited = true ∧
      inited0.timers[(0 : Fin 4)].dir = .up ∧ inited0.timers[(0 : Fin 4)].arpe = false ∧
      inited0.timers[(0 : Fin 4)].cnt = 0) ∧
    ((buffered 65533 .up 0).Ready ∧ (buffered 65533 .up 0).timers[(0 : Fin 4)].inited = true ∧
      (buffered 65533 .up 0).timers[(0 : Fin 4)].arpe = true ∧
      (buffered 65533 .up 0).timers[(0 : Fin 4)].arrSh.toNat = 65533 ∧ 65533 < 65535 - 1 ∧
      (buffered 65533 .up 0).timers[(0 : Fin 4)].dir = .up ∧ (buffered 65533 .up 0).timers[(0 : Fin 4)].cnt = 0) ∧
    (5 = (5 : Word).toNat * (1 : Half).toNat ∧ (buffered 1 .down 3).Ready ∧
      (buffered 1 .down 3).timers[(0 : Fin 4)].arpe = true ∧
      (buffered 1 .down 3).timers[(0 : Fin 4)].arrSh.toNat = 1 ∧ 1 < 5 - 1 ∧
      (buffered 1 .down 3).timers[(0 : Fin 4)].dir = .down ∧
      (buffered 1 .down 3).timers[(0 : Fin 4)].cnt.toNat < 5 - 1 ∧
      (buffered 1 .down 0).timers[(0 : Fin 4)].cnt.toNat < 5 - 1) :=
  ⟨by decide, by decide, by decide⟩

theorem witness_SingleShotFiresExactlyOnce :
    inited0.Ready ∧ (0 : Byte).toNat = (0 : Fin 4).val ∧ (1000 : Half) ∈ inited0.cfg.tickTypes ∧
    (0x20000101 : Word) ≠ 0 ∧ 65000 = (65 : Word).toNat * (1000 : Half).toNat ∧
    inited0.timers[(0 : Fin 4)].inited = true ∧ inited0.timers[(0 : Fin 4)].dir = .up ∧
    inited0.timers[(0 : Fin 4)].arpe = false ∧ inited0.timers[(0 : Fin 4)].cnt = 0 ∧
    inited0.timers[(0 : Fin 4)].uif = false :=
  ⟨by decide, by decide, by decide, by decide, by decide, by decide, by decide, by decide, by decide, by decide⟩

theorem witness_PeriodicFiresEveryPeriod :
    inited0.Ready ∧ (0 : Byte).toNat = (0 : Fin 4).val ∧ (1 : Half) ∈ inited0.cfg.tickTypes ∧
    (0x20000201 : Word) ≠ 0 ∧ 3 = (3 : Word).toNat * (1 : Half).toNat ∧
    inited0.timers[(0 : Fin 4)].inited = true ∧ inited0.timers[(0 : Fin 4)].dir = .up ∧
    inited0.timers[(0 : Fin 4)].arpe = false ∧ inited0.timers[(0 : Fin 4)].cnt = 0 ∧
    inited0.timers[(0 : Fin 4)].uif = false :=
  ⟨by decide, by decide, by decide, by decide, by decide, by decide, by decide, by decide, by decide, by decide⟩

/-- The first and the last channel, both modes, and the refusals past them. -/
theorem witness_GptPwmInitForcesAnUpdate :
    (withTimer 3 (counting 0 0)).Ready ∧ (3 : Byte).toNat = (3 : Fin 4).val ∧
    (1 : Byte).toNat = (0 : Fin 4).val + 1 ∧ (4 : Byte).toNat = (3 : Fin 4).val + 1 ∧
    [CompareMode.pwmA, .pwmB][(1 : Byte).toNat]? = some .pwmB ∧
    ¬ (1 ≤ (0 : Byte).toNat ∧ (0 : Byte).toNat ≤ 4 ∧ (0 : Byte).toNat ≤ 1) ∧
    ¬ (1 ≤ (5 : Byte).toNat ∧ (5 : Byte).toNat ≤ 4 ∧ (2 : Byte).toNat ≤ 1) ∧
    (withTimer 3 (counting 0 0)).timers[(3 : Fin 4)].inited = true ∧
    (withTimer 3 (counting 0 0)).timers[(3 : Fin 4)].uie = false ∧
    (withTimer 3 { counting 0 0 with uie := true }).timers[(3 : Fin 4)].uie = true :=
  ⟨by decide, by decide, by decide, by decide, by decide, by decide, by decide, by decide, by decide, by decide⟩

theorem witness_GptSetDutyCycleWritesCompare :
    (withTimer 3 (counting 999 0)).Ready ∧ (3 : Byte).toNat = (3 : Fin 4).val ∧
    (4 : Byte).toNat = (3 : Fin 4).val + 1 ∧ (100 : Byte).toNat ≤ 100 ∧ ¬ (101 : Byte).toNat ≤ 100 ∧
    (withTimer 3 (counting 999 0)).timers[(3 : Fin 4)].inited = true :=
  ⟨by decide, by decide, by decide, by decide, by decide, by decide⟩

theorem witness_CompareValueIsMonotonic : 99 ≤ 100 ∧ 100 ≤ 100 := by decide

theorem witness_GptPwmDeinitClearsTheChannel :
    (withTimer 3 (counting 999 0)).Ready ∧ (3 : Byte).toNat = (3 : Fin 4).val ∧
    (4 : Half).toNat = (3 : Fin 4).val + 1 ∧ ¬ (1 ≤ (0x0102 : Half).toNat ∧ (0x0102 : Half).toNat ≤ 4) ∧
    (withTimer 3 (counting 999 0)).timers[(3 : Fin 4)].inited = true :=
  ⟨by decide, by decide, by decide, by decide, by decide⟩

/-- The largest reload and the first beyond it. -/
theorem witness_StInitStopsAndProgramsSysTick :
    State.reset.Ready ∧ 2 ≤ (2 : Half).toNat ∧ [ClkDiv.div1, .div8][(1 : Half).toNat]? = some .div8 ∧
    (16777215 : Word).toNat ≤ 16777215 ∧ 16777215 < (16777216 : Word).toNat := by decide

theorem witness_StSetReloadProgramsBothRegisters :
    (withSt st8).Ready ∧ (withSt st8).st.inited = true ∧ (16777215 : Word).toNat ≤ 16777215 ∧
    ¬ (16777216 : Word).toNat ≤ 16777215 ∧ State.reset.Ready ∧ State.reset.st.inited = false := by decide

theorem witness_StStartStopAndReset :
    (withSt st8).Ready ∧ (withSt st8).st.inited = true ∧ State.reset.Ready ∧ State.reset.st.inited = false := by decide

theorem witness_StReadsAnswerAndWriteNothing :
    (withSt (running 1000 1000)).Ready ∧ (withSt (running 1000 1000)).st.inited = true ∧
    (withSt (running 1000 1000)).st.val ≤ (withSt (running 1000 1000)).st.load ∧ State.reset.st.inited = false := by decide

theorem witness_StTickCountsDown :
    (withSt (running 3 2)).Live ∧ (withSt st8).st.enable = false ∧ (withSt (running 3 0)).st.val = 0 ∧
    (withSt (running 3 2)).st.enable = true ∧ 1 < (withSt (running 3 2)).st.val.toNat ∧
    (withSt (running 3 1)).st.val = 1 ∧ (withSt (running 3 1)).st.tickint = false ∧
    ((withSt { running 3 1 with tickint := true }).st.tickint = true ∧
      (withSt { running 3 1 with tickint := true }).st.slot = none) ∧
    (withSt { armed 1 with slot := some { mode := .singleShot, cb := 9 } }).st.slot =
      some { mode := .singleShot, cb := 9 } ∧
    (withSt (armed 1)).st.slot = some { mode := .periodic, cb := 0x20000301 } :=
  ⟨by decide, by decide, by decide, by decide, by decide, by decide, by decide, by decide, by decide, by decide⟩

theorem witness_SegmentsSplitADelay :
    segments 16777215 = some [16777215] ∧ segments 33554431 = some [1, 16777215, 16777215] := by decide

/-- A product of 2 ^ 32 ticks, one of 0, and an armed interval. -/
theorem witness_StDelayIssue :
    (withSt st1).Ready ∧ (withSt st1).st.inited = true ∧ (withSt st1).st.tickint = false ∧
    40000000 = (5000 : Word).toNat * ticksPerMs (withSt st1).cfg (withSt st1).st.clkDiv ∧
    segments 40000000 = some [6445570, 16777215, 16777215] ∧
    4294967296 = (536870912 : Word).toNat * ticksPerUs (withSt st1).cfg (withSt st1).st.clkDiv ∧
    segments 4294967296 = none ∧ (withSt (armed 4)).Ready ∧ (withSt (armed 4)).st.tickint = true ∧
    (withSt (armed 4)).st.slot.isSome = true ∧ State.reset.st.inited = false :=
  ⟨by decide, by decide, by decide, by decide, by decide, by decide, by decide, by decide, by decide, by decide,
   by decide⟩

theorem witness_TickConversionsAreExact :
    wellFormedConfig Config.reference = true ∧ wellFormedConfig { Config.reference with fAhb := 72000000 } = true := by
  decide

theorem witness_DelayLastsExactlyItsTicks :
    (withSt st1).Ready ∧ 4294967288 = (536870911 : Word).toNat * ticksPerUs (withSt st1).cfg (withSt st1).st.clkDiv ∧
    (withSt st1).st.inited = true ∧ (withSt st1).st.tickint = false ∧
    (withSt st8).Ready ∧ 1 = (1 : Word).toNat * ticksPerUs (withSt st8).cfg (withSt st8).st.clkDiv :=
  ⟨by decide, by decide, by decide, by decide, by decide, by decide⟩

/-- VT10: the largest interval accepted, the first refused, and the product 0. -/
theorem witness_StSetIntervalArmsSysTick :
    (withSt st1).Ready ∧ (1 : Word) ≠ 0 ∧ (withSt st1).st.inited = true ∧
    16777208 = (2097151 : Word).toNat * ticksPerUs (withSt st1).cfg (withSt st1).st.clkDiv ∧
    16777215 < (2097152 : Word).toNat * ticksPerUs (withSt st1).cfg (withSt st1).st.clkDiv ∧
    0 = (0 : Word).toNat * ticksPerUs (withSt st1).cfg (withSt st1).st.clkDiv ∧ State.reset.st.inited = false :=
  ⟨by decide, by decide, by decide, by decide, by decide, by decide, by decide⟩

theorem witness_StPeriodicFiresOnItsTicks :
    (withSt st8).Ready ∧ (withSt st8).st.inited = true ∧ (0x20000301 : Word) ≠ 0 ∧
    4 = (4 : Word).toNat * ticksPerUs (withSt st8).cfg (withSt st8).st.clkDiv :=
  ⟨by decide, by decide, by decide, by decide⟩

theorem witness_StSingleShotFiresOnItsTick :
    (withSt st8).Ready ∧ (withSt st8).st.inited = true ∧ (0x20000401 : Word) ≠ 0 ∧
    16777215 = (16777215 : Word).toNat * ticksPerUs (withSt st8).cfg (withSt st8).st.clkDiv :=
  ⟨by decide, by decide, by decide, by decide⟩

theorem witness_TimeoutIsStrictlyIncreasing : (65534 : Half).toNat < (65535 : Half).toNat := by decide

theorem witness_VectorServesItsLines :
    (4 : Nibble).toNat ≤ 4 ∧ 5 ≤ (5 : Nibble).toNat ∧ (9 : Nibble).toNat ≤ 9 ∧ 10 ≤ (10 : Nibble).toNat := by decide

theorem witness_UsInitStoresAndRegisters :
    withSensor.Ready ∧ withSensor.cfg.usCapacity ≤ (3 : Byte).toNat ∧ (2 : Byte).toNat < withSensor.cfg.usCapacity ∧
    withSensor.st.tickint = false ∧ (withSt (armed 4)).Ready ∧ (withSt (armed 4)).st.tickint = true ∧
    (withSt (armed 4)).st.slot.isSome = true :=
  ⟨by decide, by decide, by decide, by decide, by decide, by decide, by decide⟩

theorem witness_UsReadDistanceIssue :
    withSensor.Ready ∧ withSensor.cfg.usCapacity ≤ (3 : Byte).toNat ∧ (2 : Byte).toNat < withSensor.cfg.usCapacity ∧
    sensorAt 2 withSensor = none ∧ sensorAt 0 withSensor = some sensor0 ∧ withSensor.st.inited = true ∧
    segments (2 * ticksPerUs withSensor.cfg withSensor.st.clkDiv) = some [2] ∧
    ({ sensor0 with enabled := false }).enabled = false ∧
    ((withSensor.putSt SysTick.reset).Ready ∧ (withSensor.putSt SysTick.reset).st.inited = false) ∧
    ((withSensor.putSt (armed 4)).Ready ∧ (withSensor.putSt (armed 4)).st.tickint = true) ∧
    ({ withSensor.putSt st1 with cfg := fastClock }).Ready ∧ segments (2 * ticksPerUs fastClock .div1) = none :=
  ⟨by decide, by decide, by decide, by decide, by decide, by decide, by decide, by decide, by decide, by decide,
   by decide, by decide⟩

theorem witness_UsSetRangeAndState :
    withSensor.Ready ∧ withSensor.cfg.usCapacity ≤ (3 : Byte).toNat ∧ (0 : Byte).toNat < withSensor.cfg.usCapacity ∧
    ¬ (2 : Half).toNat < 2 ∧ sensorAt 1 withSensor = none ∧ sensorAt 0 withSensor = some sensor0 :=
  ⟨by decide, by decide, by decide, by decide, by decide, by decide⟩

theorem witness_ExtiEdgeDrivesTheSession :
    withSensor.Live ∧ (15 : Byte).toNat = (15 : Fin 16).val ∧ withSensor.extiEn[(15 : Fin 16)] = false ∧
    (6 : Byte).toNat = (6 : Fin 16).val ∧ (polled .waitingForRisingEdge 5).extiEn[(6 : Fin 16)] = true ∧
    (polled .waitingForRisingEdge 5).extiReg[(6 : Fin 16)] = true ∧
    ((polled .idle 5).Live ∧ (polled .idle 5).ses.state = .idle) ∧
    ((polled .waitingForRisingEdge 5).Live ∧ (polled .waitingForRisingEdge 5).fg = .usPoll 0) ∧
    (∀ i : Nat, ({ polled .waitingForRisingEdge 5 with fg := .stDelay [] (.usTrigHigh 0) }).fg ≠ .usPoll i) ∧
    (polled .waitingForFallingEdge 5).ses.state = .waitingForFallingEdge ∧ (polled .done 5).ses.state = .done :=
  ⟨by decide, by decide, by decide, by decide, by decide, by decide, by decide, by decide, nofun, by decide, by decide⟩

theorem witness_TriggerPulseLastsTenMicroseconds :
    withSensor.Ready ∧ (0 : Byte).toNat < withSensor.cfg.usCapacity ∧ sensorAt (0 : Byte).toNat withSensor = some sensor0 ∧
    sensor0.enabled = true ∧ withSensor.st.inited = true ∧ withSensor.st.tickint = false ∧
    1 = ticksPerUs withSensor.cfg withSensor.st.clkDiv :=
  ⟨by decide, by decide, by decide, by decide, by decide, by decide, by decide⟩

/-- A read that polls with lines 6 and 8 enabled, as in vector VU10. -/
def twoLines : State :=
  { polled .waitingForRisingEdge 16776765 with
    extiEn := ((Vector.replicate 16 false).set 6 true).set 8 true
    extiReg := ((Vector.replicate 16 false).set 6 true).set 8 true }

/-- Edges on two different lines, and the widest pulse within the timeout. -/
theorem witness_EchoWidthIsReportedAsDistance :
    twoLines.Live ∧ twoLines.fg = .usPoll 0 ∧ sensorAt 0 twoLines = some sensor0 ∧
    twoLines.ses.state = .waitingForRisingEdge ∧ twoLines.st.tickint = false ∧
    (6 : Byte).toNat = (6 : Fin 16).val ∧ twoLines.extiEn[(6 : Fin 16)] = true ∧ twoLines.extiReg[(6 : Fin 16)] = true ∧
    (8 : Byte).toNat = (8 : Fin 16).val ∧ twoLines.extiEn[(8 : Fin 16)] = true ∧ twoLines.extiReg[(8 : Fin 16)] = true ∧
    2943 ≤ sensor0.timeout :=
  ⟨by decide, by decide, by decide, by decide, by decide, by decide, by decide, by decide, by decide, by decide,
   by decide, by decide⟩

theorem witness_ReadTimesOutAfterItsTimeout :
    (polled .waitingForFallingEdge 0xFFFFFF).Live ∧ (polled .waitingForFallingEdge 0xFFFFFF).fg = .usPoll 0 ∧
    sensorAt 0 (polled .waitingForFallingEdge 0xFFFFFF) = some sensor0 ∧
    (polled .waitingForFallingEdge 0xFFFFFF).ses.state = .waitingForFallingEdge ∧
    (polled .waitingForFallingEdge 0xFFFFFF).st = running 0xFFFFFF 0xFFFFFF ∧ sensor0.timeout < 16777214 :=
  ⟨by decide, by decide, by decide, by decide, by decide, by decide⟩

end Sys2Proof.Tests
end

section
/-! The operand words of GPT_INIT, GPT_PWM_INIT and US_INIT as numbers, and reading back the fields that the packed
operands were built with (30_encoding.md R84 to R87). -/

namespace Sys2Proof

/-- Concatenation as arithmetic, in place of the library's shift and bitwise or. -/
theorem toNat_append_eq_add {m n : Nat} (x : BitVec m) (y : BitVec n) :
    (x ++ y).toNat = x.toNat * 2 ^ n + y.toNat := by
  rw [BitVec.toNat_append, ← Nat.shiftLeft_add_eq_or_of_lt y.isLt, Nat.shiftLeft_eq]

theorem extractLsb'_eq_of_toNat {w start len : Nat} {x : BitVec w} {field : BitVec len}
    (h : x.toNat / 2 ^ start % 2 ^ len = field.toNat) : x.extractLsb' start len = field := by
  apply BitVec.eq_of_toNat_eq
  rw [BitVec.extractLsb'_toNat, Nat.shiftRight_eq_div_pow, h]

theorem getElem_eq_of_toNat {w k : Nat} {x : BitVec w} {b : Bool} (hk : k < w)
    (h : x.toNat / 2 ^ k % 2 = b.toNat) : x[k] = b := by
  rw [← BitVec.getLsbD_eq_getElem, BitVec.getLsbD, Nat.testBit_eq_decide_div_mod_eq, h]
  cases b <;> rfl

/-! ### GPT_INIT's configuration word (R84) -/

section GptConfigWord
variable (unit dir : BitVec 2) (arpe uie : Bool) (ckd : BitVec 2)

theorem gptConfigWord_toNat :
    (gptConfigWord unit dir arpe uie ckd).toNat =
      ckd.toNat * 64 + uie.toNat * 32 + arpe.toNat * 16 + dir.toNat * 4 + unit.toNat := by
  simp only [gptConfigWord, toNat_append_eq_add, BitVec.toNat_ofBool, BitVec.toNat_ofNat]
  omega

@[simp] theorem gptConfigWord_unit : (gptConfigWord unit dir arpe uie ckd).extractLsb' 0 2 = unit :=
  extractLsb'_eq_of_toNat (by rw [gptConfigWord_toNat]; omega)

@[simp] theorem gptConfigWord_dir : (gptConfigWord unit dir arpe uie ckd).extractLsb' 2 2 = dir :=
  extractLsb'_eq_of_toNat (by
    have := arpe.toNat_le
    rw [gptConfigWord_toNat]; omega)

@[simp] theorem gptConfigWord_arpe : (gptConfigWord unit dir arpe uie ckd)[4] = arpe :=
  getElem_eq_of_toNat (by decide) (by
    have := arpe.toNat_le
    rw [gptConfigWord_toNat]; omega)

@[simp] theorem gptConfigWord_uie : (gptConfigWord unit dir arpe uie ckd)[5] = uie :=
  getElem_eq_of_toNat (by decide) (by
    have := arpe.toNat_le
    have := uie.toNat_le
    rw [gptConfigWord_toNat]; omega)

@[simp] theorem gptConfigWord_ckd : (gptConfigWord unit dir arpe uie ckd).extractLsb' 6 2 = ckd :=
  extractLsb'_eq_of_toNat (by
    have := arpe.toNat_le
    have := uie.toNat_le
    rw [gptConfigWord_toNat]; omega)

@[simp] theorem gptConfigWord_reserved : (gptConfigWord unit dir arpe uie ckd).extractLsb' 8 24 = 0#24 :=
  extractLsb'_eq_of_toNat (by
    have := arpe.toNat_le
    have := uie.toNat_le
    rw [gptConfigWord_toNat, BitVec.toNat_ofNat]; omega)

end GptConfigWord

/-! ### GPT_PWM_INIT's operand word (R85) -/

section PwmOperandWord
variable (channel mode : Byte)

theorem pwmOperandWord_toNat : (pwmOperandWord channel mode).toNat = mode.toNat * 256 + channel.toNat := by
  simp only [pwmOperandWord, toNat_append_eq_add, BitVec.toNat_ofNat]
  omega

@[simp] theorem pwmOperandWord_channel : (pwmOperandWord channel mode).extractLsb' 0 8 = channel :=
  extractLsb'_eq_of_toNat (by rw [pwmOperandWord_toNat]; omega)

@[simp] theorem pwmOperandWord_mode : (pwmOperandWord channel mode).extractLsb' 8 8 = mode :=
  extractLsb'_eq_of_toNat (by rw [pwmOperandWord_toNat]; omega)

@[simp] theorem pwmOperandWord_reserved : (pwmOperandWord channel mode).extractLsb' 16 16 = 0#16 :=
  extractLsb'_eq_of_toNat (by rw [pwmOperandWord_toNat, BitVec.toNat_ofNat]; omega)

end PwmOperandWord

/-! ### US_INIT's pin word (R87) -/

section PinsWord
variable (echoPin echoPort trigPin trigPort : Nibble)

theorem pinsWord_toNat :
    (pinsWord echoPin echoPort trigPin trigPort).toNat =
      trigPort.toNat * 4096 + trigPin.toNat * 256 + echoPort.toNat * 16 + echoPin.toNat := by
  simp only [pinsWord, toNat_append_eq_add, BitVec.toNat_ofNat]
  omega

@[simp] theorem pinsWord_echoPin : (pinsWord echoPin echoPort trigPin trigPort).extractLsb' 0 4 = echoPin :=
  extractLsb'_eq_of_toNat (by rw [pinsWord_toNat]; omega)

@[simp] theorem pinsWord_echoPort : (pinsWord echoPin echoPort trigPin trigPort).extractLsb' 4 4 = echoPort :=
  extractLsb'_eq_of_toNat (by rw [pinsWord_toNat]; omega)

@[simp] theorem pinsWord_trigPin : (pinsWord echoPin echoPort trigPin trigPort).extractLsb' 8 4 = trigPin :=
  extractLsb'_eq_of_toNat (by rw [pinsWord_toNat]; omega)

@[simp] theorem pinsWord_trigPort : (pinsWord echoPin echoPort trigPin trigPort).extractLsb' 12 4 = trigPort :=
  extractLsb'_eq_of_toNat (by rw [pinsWord_toNat]; omega)

@[simp] theorem pinsWord_reserved : (pinsWord echoPin echoPort trigPin trigPort).extractLsb' 16 16 = 0#16 :=
  extractLsb'_eq_of_toNat (by rw [pinsWord_toNat, BitVec.toNat_ofNat]; omega)

end PinsWord

/-! ### GPT_SET_DUTY_CYCLE's `imm16` (R86) -/

@[simp] theorem dutyImm_channel (channel percent : Byte) :
    BitVec.extractLsb' 8 8 (channel ++ percent : Half) = channel :=
  BitVec.extractLsb'_append_eq_left

@[simp] theorem dutyImm_percent (channel percent : Byte) :
    BitVec.extractLsb' 0 8 (channel ++ percent : Half) = percent :=
  BitVec.extractLsb'_append_eq_right

end Sys2Proof
end

section
/-! The decoder on an instruction's own frame: it reads the instruction back and takes exactly the frame's words, whatever
follows on the port (30_encoding.md R80 to R90). -/

namespace Sys2Proof

/-! ### A frame by its format -/

section ByFormat
variable {i : Instr} {sel : Byte} {imm : Half} {w1 w2 : Word}

theorem decodeFrame_encode_of_h (hp : i.port = .command) (hf : formatOf i.op = some .h)
    (he : encode i = [headerWord i.op sel imm]) (rest : List Word) :
    decodeFrame i.port (encode i ++ rest) = decodeH i.op sel imm := by
  simp [hp, he, decodeFrame, decodeCommand, hf]

theorem decodeFrame_encode_of_hw (hp : i.port = .command) (hf : formatOf i.op = some .hw)
    (he : encode i = [headerWord i.op sel imm, w1]) (rest : List Word) :
    decodeFrame i.port (encode i ++ rest) = decodeHW i.op sel imm w1 := by
  simp [hp, he, decodeFrame, decodeCommand, hf]

theorem decodeFrame_encode_of_hww (hp : i.port = .command) (hf : formatOf i.op = some .hww)
    (he : encode i = [headerWord i.op sel imm, w1, w2]) (rest : List Word) :
    decodeFrame i.port (encode i ++ rest) = decodeHWW i.op sel imm w1 w2 := by
  simp [hp, he, decodeFrame, decodeCommand, hf]

theorem decodeFrame_encode_of_event (hp : i.port = .event) (he : encode i = [headerWord i.op sel imm])
    (rest : List Word) : decodeFrame i.port (encode i ++ rest) = decodeEvent [headerWord i.op sel imm] := by
  rw [hp, he]
  rfl

end ByFormat

/-! ### Decoding what was encoded -/

/-- The commands whose operands stand in their frame as they are follow by computation from their format's equation;
those with packed operands need their fields read back, and the events their range (R90). -/
theorem decodeFrame_encode_append (i : Instr) (rest : List Word) (h : i.wellFormed = true) :
    decodeFrame i.port (encode i ++ rest) = .ok i := by
  cases i
  case gptInit | usInit =>
    refine (decodeFrame_encode_of_hw rfl rfl rfl rest).trans ?_
    simp [Instr.op, decodeHW, whenZero]
  case gptPwmInit =>
    refine (decodeFrame_encode_of_hww rfl rfl rfl rest).trans ?_
    simp [Instr.op, decodeHWW, whenZero]
  case gptSetDutyCycle =>
    refine (decodeFrame_encode_of_h rfl rfl rfl rest).trans ?_
    simp [Instr.op, decodeH]
  case gptTick t =>
    have ht : t.toNat < 4 := of_decide_eq_true h
    refine (decodeFrame_encode_of_event rfl rfl rest).trans ?_
    simp [Instr.op, decodeEvent, ht]
  case extiEdge line =>
    have hl : line.toNat < 16 := of_decide_eq_true h
    refine (decodeFrame_encode_of_event rfl rfl rest).trans ?_
    simp [Instr.op, decodeEvent, hl]
  case stTick => exact (decodeFrame_encode_of_event rfl rfl rest).trans rfl
  case gptBusyWait | stInitReload | stSetReload | stDelayUs | stDelayMs =>
    exact (decodeFrame_encode_of_hw rfl rfl rfl rest).trans rfl
  case gptSetIntervalSingle | gptSetIntervalPeriodic | stSetIntervalSingle | stSetIntervalPeriodic =>
    exact (decodeFrame_encode_of_hww rfl rfl rfl rest).trans rfl
  all_goals exact (decodeFrame_encode_of_h rfl rfl rfl rest).trans rfl

theorem decodeFrame_encode {i : Instr} (h : i.wellFormed = true) : decodeFrame i.port (encode i) = .ok i := by
  simpa using decodeFrame_encode_append i [] h

/-! ### The length of a frame -/

theorem frameShape : ∀ i : Instr, Laws.FrameShape.Statement i
  | .gptInit .. => Laws.FrameShape.gptInit ..
  | .gptEnable .. => Laws.FrameShape.gptEnable ..
  | .gptDisable .. => Laws.FrameShape.gptDisable ..
  | .gptSetPrescaler .. => Laws.FrameShape.gptSetPrescaler ..
  | .gptSetPeriod .. => Laws.FrameShape.gptSetPeriod ..
  | .gptSetCountDirection .. => Laws.FrameShape.gptSetCountDirection ..
  | .gptSetArrBuffer .. => Laws.FrameShape.gptSetArrBuffer ..
  | .gptSetInterrupt .. => Laws.FrameShape.gptSetInterrupt ..
  | .gptBusyWait .. => Laws.FrameShape.gptBusyWait ..
  | .gptSetIntervalSingle .. => Laws.FrameShape.gptSetIntervalSingle ..
  | .gptSetIntervalPeriodic .. => Laws.FrameShape.gptSetIntervalPeriodic ..
  | .gptGetRemainingTime .. => Laws.FrameShape.gptGetRemainingTime ..
  | .gptGetCounterValue .. => Laws.FrameShape.gptGetCounterValue ..
  | .gptPwmInit .. => Laws.FrameShape.gptPwmInit ..
  | .gptSetDutyCycle .. => Laws.FrameShape.gptSetDutyCycle ..
  | .gptPwmDeinit .. => Laws.FrameShape.gptPwmDeinit ..
  | .stInit .. => Laws.FrameShape.stInit ..
  | .stInitReload .. => Laws.FrameShape.stInitReload ..
  | .stSetReload .. => Laws.FrameShape.stSetReload ..
  | .stStart => Laws.FrameShape.stStart
  | .stStop => Laws.FrameShape.stStop
  | .stReset => Laws.FrameShape.stReset
  | .stGetRemaining => Laws.FrameShape.stGetRemaining
  | .stGetElapsed => Laws.FrameShape.stGetElapsed
  | .stDelayUs .. => Laws.FrameShape.stDelayUs ..
  | .stDelayMs .. => Laws.FrameShape.stDelayMs ..
  | .stSetIntervalSingle .. => Laws.FrameShape.stSetIntervalSingle ..
  | .stSetIntervalPeriodic .. => Laws.FrameShape.stSetIntervalPeriodic ..
  | .usInit .. => Laws.FrameShape.usInit ..
  | .usReadDistance .. => Laws.FrameShape.usReadDistance ..
  | .usSetRange .. => Laws.FrameShape.usSetRange ..
  | .usSetState .. => Laws.FrameShape.usSetState ..
  | .gptTick .. => Laws.FrameShape.gptTick ..
  | .stTick => Laws.FrameShape.stTick
  | .extiEdge .. => Laws.FrameShape.extiEdge ..

theorem frameLength_encode_append (i : Instr) (rest : List Word) :
    frameLength i.port (encode i ++ rest) = (encode i).length := by
  obtain ⟨hop, hlen⟩ := frameShape i
  obtain ⟨w0, he, hw0⟩ := Option.map_eq_some_iff.mp hop
  obtain ⟨ws, he⟩ := List.head?_eq_some_iff.mp he
  rw [he] at hlen ⊢
  cases hp : i.port with
  | command =>
    simp only [hp] at hlen
    obtain ⟨f, hf, hlen⟩ := Option.map_eq_some_iff.mp hlen
    simp [frameLength, hw0, hf, hlen]
  | event =>
    simp only [hp] at hlen
    simpa [frameLength] using hlen.2.symm

end Sys2Proof
end

section
/-! The step: which instruction it runs and from which state, and the gate every step passes (00_scope.md R9, R18). -/

namespace Sys2Proof.Machine

/-! ### The frame a step takes -/

/-- A presentation that is exactly one frame leaves nothing behind on its port. -/
theorem remainingInput_of_frameLength_eq {p : Presentation} (h : frameLength p.port p.words = p.words.length)
    (rest : List Presentation) : remainingInput p rest = rest := by
  simp [remainingInput, h]

theorem remainingInput_encode (i : Instr) (rest : List Presentation) :
    remainingInput { port := i.port, words := encode i } rest = rest :=
  remainingInput_of_frameLength_eq (by simpa using frameLength_encode_append i []) rest

theorem step_of_decodeFrame_ok {s : State} {p : Presentation} {rest : List Presentation} {i : Instr}
    (hin : s.input = p :: rest) (hd : decodeFrame p.port p.words = .ok i) :
    step s = exec i { s with input := remainingInput p rest } := by
  simp [step, serve, hin, hd]

/-! ### The gate of every step -/

/-- Whatever is presented, a step goes through the gate, from a state that differs in the input list only. -/
theorem step_event (s : State) :
    ∃ (f : State → State) (rest : List Presentation), step s = event f { s with input := rest } := by
  cases hin : s.input with
  | nil => exact ⟨id, s.input, show step s = event id s by simp only [step, serve, hin]⟩
  | cons p rest =>
    cases hd : decodeFrame p.port p.words with
    | ok i =>
      obtain ⟨f, hf⟩ := exec_event i
      exact ⟨f, remainingInput p rest, (step_of_decodeFrame_ok hin hd).trans (hf _)⟩
    | error e =>
      cases e
      case illegalOpcode | reservedField =>
        exact ⟨_, remainingInput p rest, by simp only [step, serve, hin, hd]; rfl⟩
      case notAnEvent | incomplete =>
        exact ⟨id, remainingInput p rest, by simp only [step, serve, hin, hd]⟩

/-! ### The configuration -/

theorem wellFormedConfig_iff {c : Config} : wellFormedConfig c = true ↔ c.fAhb % 8000000 = 0 ∧ 1 ≤ c.fPclk := by
  simp [wellFormedConfig]

theorem wellFormedConfig_eq_false_iff {c : Config} :
    wellFormedConfig c = false ↔ c.fAhb % 8000000 ≠ 0 ∨ c.fPclk = 0 := by
  rw [← Bool.not_eq_true, wellFormedConfig_iff]
  omega

theorem exec_of_illFormed {s : State} (hw : wellFormedConfig s.cfg = false) (i : Instr) :
    exec i s = .refused .illFormedConfiguration := by
  obtain ⟨f, hf⟩ := exec_event i
  rw [hf, event_of_illFormed hw]

theorem step_of_illFormed {s : State} (hw : wellFormedConfig s.cfg = false) :
    step s = .refused .illFormedConfiguration := by
  obtain ⟨f, rest, hf⟩ := step_event s
  exact hf.trans (event_of_illFormed hw)

/-! ### The tick conversions (00_scope.md R11) -/

/-- Both dividers divide 8, so the clock of a well-formed configuration is a whole number of counts per microsecond. -/
theorem divider_dvd_fAhb {c : Config} (hw : wellFormedConfig c = true) (d : ClkDiv) :
    1000000 * divider d ∣ c.fAhb := by
  have h8 : 1000000 * divider d ∣ 8000000 := by cases d <;> decide
  exact h8.trans (Nat.dvd_of_mod_eq_zero (wellFormedConfig_iff.mp hw).1)

theorem ticksPerUs_mul {c : Config} (hw : wellFormedConfig c = true) (d : ClkDiv) :
    ticksPerUs c d * (1000000 * divider d) = c.fAhb :=
  Nat.div_mul_cancel (divider_dvd_fAhb hw d)

theorem ticksPerMs_mul {c : Config} (hw : wellFormedConfig c = true) (d : ClkDiv) :
    ticksPerMs c d * (1000 * divider d) = c.fAhb :=
  Nat.div_mul_cancel ((Nat.mul_dvd_mul_right (by decide : 1000 ∣ 1000000) (divider d)).trans (divider_dvd_fAhb hw d))

theorem divider_pos (d : ClkDiv) : 0 < divider d := by
  cases d <;> decide

theorem ticksPerMs_eq {c : Config} (hw : wellFormedConfig c = true) (d : ClkDiv) :
    ticksPerMs c d = 1000 * ticksPerUs c d := by
  have hpos : 0 < 1000 * divider d := Nat.mul_pos (by decide) (divider_pos d)
  apply Nat.eq_of_mul_eq_mul_right hpos
  calc ticksPerMs c d * (1000 * divider d)
      = c.fAhb := ticksPerMs_mul hw d
    _ = ticksPerUs c d * (1000000 * divider d) := (ticksPerUs_mul hw d).symm
    _ = 1000 * ticksPerUs c d * (1000 * divider d) := by ring

/-! ### The statements of 00_scope.md -/

/-- Settles O4: the decoded instruction runs, and the decoder reads an instruction's own frame back whole. -/
theorem stepRunsDecodedInstruction : Obligations.StepRunsDecodedInstruction := by
  refine ⟨fun s p rest i hin hd => step_of_decodeFrame_ok hin hd, fun s rest i hwf hin => ?_⟩
  rw [step_of_decodeFrame_ok hin (decodeFrame_encode hwf), remainingInput_encode]

/-- Settles O10: every step and every instruction passes the gate, which refuses the configuration first. -/
theorem illFormedConfigurationIsRefused : Obligations.IllFormedConfigurationIsRefused := by
  intro s h
  have hw : wellFormedConfig s.cfg = false := wellFormedConfig_eq_false_iff.mpr h
  exact ⟨step_of_illFormed hw, exec_of_illFormed hw⟩

/-- Settles O47: both divisions are without remainder, for `k` is the divider as a number. -/
theorem tickConversionsAreExact : Obligations.TickConversionsAreExact := by
  intro c d k hw hd
  have hk : k = divider d := by
    obtain ⟨rfl, rfl⟩ | ⟨rfl, rfl⟩ := hd <;> rfl
  subst hk
  refine ⟨?_, ?_, ticksPerMs_eq hw d⟩
  · rw [Nat.mul_comm (divider d), ticksPerUs_mul hw]
  · rw [Nat.mul_comm (divider d), ticksPerMs_mul hw]

end Sys2Proof.Machine
end

section
/-! What a command and an event can do to the state, each said once: the writes a command makes to its unit, the
outcomes of a tick, and the classification of every instruction by them (10_state.md R21, 41_gpt_interval.md R141,
43_systick.md R200). -/

namespace Sys2Proof.Machine

/-! ### Whole-unit updates -/

@[simp] theorem putTimer_getElem_same (s : State) (n : Fin 4) (t : Timer) : (s.putTimer n t).timers[n] = t := by
  simp [State.putTimer]

theorem putTimer_getElem (s : State) (n m : Fin 4) (t : Timer) :
    (s.putTimer n t).timers[m] = if m = n then t else s.timers[m] :=
  timers_set_getElem s.timers n m t

theorem putTimer_getElem_of_ne {n m : Fin 4} (h : m ≠ n) (s : State) (t : Timer) :
    (s.putTimer n t).timers[m] = s.timers[m] := by
  rw [putTimer_getElem, if_neg h]

@[simp] theorem putTimer_self (s : State) (n : Fin 4) : s.putTimer n s.timers[n] = s := by
  simp [State.putTimer]

@[simp] theorem putTimer_putTimer (s : State) (n : Fin 4) (t u : Timer) :
    (s.putTimer n t).putTimer n u = s.putTimer n u := by
  simp [State.putTimer]

theorem raise_putTimer (r : Reason) (s : State) (n : Fin 4) (t : Timer) :
    raise r (s.putTimer n t) = (raise r s).putTimer n t := by
  unfold raise
  cases hf : s.fault <;> simp [State.putTimer, hf]

theorem modifyTimer_eq_putTimer (n : Fin 4) (f : Timer → Timer) (s : State) :
    modifyTimer n f s = s.putTimer n (f s.timers[n]) := rfl

theorem putTimer_emit (r : Record) (s : State) (n : Fin 4) (t : Timer) :
    (emit r s).putTimer n t = emit r (s.putTimer n t) := rfl

theorem zero_le_load (load : Ticks) : (0 : Ticks) ≤ load := by bv_omega

theorem stArmed_eq_false {st : SysTick} : stArmed st = false ↔ (st.tickint = true → st.slot.isSome = false) := by
  cases h : st.tickint <;> simp [stArmed, h]

/-! ### What a command writes -/

/-- A slot is kept, or filled with a handle that is not `NULL_CB` (10_state.md R33, R39). -/
def SlotWritten (old new : Option Slot) : Prop := new = old ∨ ∃ m cb, cb ≠ 0 ∧ new = some ⟨m, cb⟩

theorem SlotWritten.refl (slot : Option Slot) : SlotWritten slot slot := .inl rfl

theorem SlotWritten.filled {old : Option Slot} (m : IntervalMode) {cb : Word} (h : handleOk cb = true) :
    SlotWritten old (some ⟨m, cb⟩) :=
  .inr ⟨m, cb, by simpa [handleOk] using h, rfl⟩

theorem SlotWritten.cb_ne_zero {old new : Option Slot} (h : SlotWritten old new) (ho : ∀ x ∈ old, x.cb ≠ 0) :
    ∀ x ∈ new, x.cb ≠ 0 := by
  rcases h with rfl | ⟨m, cb, hcb, rfl⟩
  · exact ho
  · rintro x ⟨⟩; exact hcb

/-- What a GPT command leaves of its timer: initialised, with no new stale update flag (60_exceptions.md R278). -/
structure TimerWritten (old new : Timer) : Prop where
  inited : new.inited = true
  slot : SlotWritten old.slot new.slot
  noStale : ¬(old.uif = true ∧ old.uie = true) → ¬(new.uif = true ∧ new.uie = true)

/-- A write that touches none of the fields `TimerWritten` speaks of. -/
theorem TimerWritten.of_eq {old new : Timer} (hi : old.inited = true) (hinit : new.inited = old.inited)
    (hslot : new.slot = old.slot) (huif : new.uif = old.uif) (huie : new.uie = old.uie) : TimerWritten old new :=
  ⟨hinit.trans hi, .inl hslot, by rw [huif, huie]; exact id⟩

/-- What an ST command leaves of SysTick: initialised, `VAL ≤ LOAD`, and no tick interrupt without a slot
(10_state.md R37, 43_systick.md R201). -/
structure StWritten (old new : SysTick) : Prop where
  inited : new.inited = true
  slot : SlotWritten old.slot new.slot
  count : old.val ≤ old.load → new.val ≤ new.load
  tickint : (old.tickint = true → old.slot.isSome = true) → new.tickint = true → new.slot.isSome = true

theorem stWritten_stInitWith (d : ClkDiv) (n : Ticks) (st : SysTick) : StWritten st (stInitWith d n st) :=
  ⟨rfl, .refl _, fun _ => BitVec.le_refl n, fun _ h => nomatch h⟩

theorem stWritten_stProgram (n : Ticks) {st : SysTick} (hi : st.inited = true) : StWritten st (stProgram n st) :=
  ⟨hi, .refl _, fun _ => BitVec.le_refl n, id⟩

theorem stWritten_stArm (m : IntervalMode) {cb : Word} (t : Ticks) {st : SysTick} (hi : st.inited = true)
    (hcb : handleOk cb = true) : StWritten st (stArm m cb t st) :=
  ⟨hi, .filled m hcb, fun _ => BitVec.le_refl t, fun _ _ => rfl⟩

/-! ### Commands -/

/-- Everything a command can do in a ready block: an answer or a fault that writes nothing, one write to the unit it
belongs to, or the issue step of a blocking operation (10_state.md R21). -/
inductive CommandEffect (i : Instr) (s : State) : State → Prop
  | answered (x : Status) (v : Word) : CommandEffect i s (respond x v s)
  | raised (r : Reason) : CommandEffect i s (raise r s)
  | timerWritten {sel : Byte} {n : Fin 4} (t : Timer) (draws : Nat) :
      gptTarget i = some sel → sel.toNat = n.val → TimerWritten s.timers[n] t →
      CommandEffect i s (respondOk { s.putTimer n t with drawCount := draws })
  | waitIssued {sel : Byte} {n : Fin 4} (t : Timer) (target : Half) :
      gptTarget i = some sel → sel.toNat = n.val → TimerWritten s.timers[n] t → t.cen = true → t.uie = false →
      CommandEffect i s (fgCheck { s.putTimer n t with fg := .gptWait n target })
  | stWritten (st : SysTick) : gptTarget i = none → StWritten s.st st → CommandEffect i s (respondOk (s.putSt st))
  | delayIssued (t : Nat) : gptTarget i = none → stArmed s.st = false →
      CommandEffect i s (fgCheck (startDelay t .respond s))
  | sensorInited (k : Nat) (r : Sensor) : gptTarget i = none → r.timeout = timeoutTicks r.range →
      CommandEffect i s (usInitBody k r s)
  | readIssued (k : Nat) (r : Sensor) : gptTarget i = none → sensorAt k s = some r → stArmed s.st = false →
      CommandEffect i s (startRead k r s)
  | sensorWritten (k : Nat) (r r' : Sensor) : gptTarget i = none → sensorAt k s = some r → r'.echoPin = r.echoPin →
      (r.timeout = timeoutTicks r.range → r'.timeout = timeoutTicks r'.range) →
      CommandEffect i s (respondOk (setSensor k r' s))

/-- A GPT command that keeps the draws: `timerWritten` as the commands write it. -/
theorem CommandEffect.modifyTimer {i : Instr} {s : State} {sel : Byte} {n : Fin 4} (f : Timer → Timer)
    (hi : gptTarget i = some sel) (hn : sel.toNat = n.val) (hw : TimerWritten s.timers[n] (f s.timers[n])) :
    CommandEffect i s (respondOk (modifyTimer n f s)) :=
  .timerWritten (f s.timers[n]) s.drawCount hi hn hw

/-- The checks of a GPT command add only an answer and a fault to what its body does. -/
theorem gptChecked_effect {i : Instr} {α : Type} {t : Byte} {p : Option α} {body : Fin 4 → α → State → State}
    {s : State}
    (h : ∀ n a, t.toNat = n.val → p = some a → s.timers[n].inited = true → CommandEffect i s (body n a s)) :
    CommandEffect i s (gptChecked t p body s) := by
  rcases gptChecked_cases t p body s with e | e | ⟨n, a, hn, hp, hi, e⟩ <;> rw [e]
  · exact .answered ..
  · exact .raised _
  · exact h n a hn hp hi

/-- The checks of an ST command add only an answer and a fault to what its body does. -/
theorem stChecked_effect {i : Instr} {α : Type} {p : Option α} {body : α → State → State} {s : State}
    (h : ∀ a, p = some a → s.st.inited = true → CommandEffect i s (body a s)) :
    CommandEffect i s (stChecked p body s) := by
  rcases stChecked_cases p body s with e | e | ⟨a, hp, hi, e⟩ <;> rw [e]
  · exact .answered ..
  · exact .raised _
  · exact h a hp hi

/-- The checks of a US command add only an answer and a fault to what its body does. -/
theorem usChecked_effect {i : Instr} {α : Type} {id : Byte} {p : Option α} {body : Sensor → α → State → State}
    {s : State} (h : ∀ a r, sensorAt id.toNat s = some r → p = some a → CommandEffect i s (body r a s)) :
    CommandEffect i s (usChecked id p body s) := by
  rcases usChecked_cases id p body s with e | e | ⟨a, r, -, hp, hr, e⟩ <;> rw [e]
  · exact .answered ..
  · exact .raised _
  · exact h a r hr hp

/-- A GPT command whose body is one write of a timer, which keeps what `TimerWritten` speaks of. -/
theorem gptChecked_write_effect {i : Instr} {α : Type} {t : Byte} {p : Option α} (f : α → Timer → Timer) {s : State}
    (hi : gptTarget i = some t) (hw : ∀ a u, u.inited = true → TimerWritten u (f a u)) :
    CommandEffect i s (gptChecked t p (fun n a s => respondOk (modifyTimer n (f a) s)) s) :=
  gptChecked_effect fun n a hn _ hinit => .modifyTimer (f a) hi hn (hw a s.timers[n] hinit)

theorem gptInitBody_effect {i : Instr} {sel : Byte} {n : Fin 4} {s : State} (arr : Half) (u : TimeUnit) (d : CountDir)
    (k : ClockDivision) (arpe uie : Bool) (hi : gptTarget i = some sel) (hn : sel.toNat = n.val) :
    CommandEffect i s (gptInitBody n arr u d k arpe uie s) := by
  unfold gptInitBody
  split
  · exact .raised _
  · split
    · exact .raised _
    · next hstale =>
      refine .modifyTimer _ hi hn ⟨rfl, .refl _, fun _ hboth => hstale ?_⟩
      simp only [staleUpdateFlag, timerAt_def, Bool.and_eq_true]
      exact ⟨hboth.2, hboth.1⟩

theorem armInterval_effect {i : Instr} (mode : IntervalMode) (sel : Byte) (tickType : Half) (ticks cb : Word)
    (s : State) (hi : gptTarget i = some sel) : CommandEffect i s (armInterval mode sel tickType ticks cb s) := by
  refine gptChecked_effect fun n _ hn hp hinit => ?_
  have hcb : handleOk cb = true := by
    cases hcb : handleOk cb with
    | true => rfl
    | false => simp [check?, hcb] at hp
  cases reloadOf ticks tickType with
  | none => exact .raised _
  | some p =>
    by_cases hstale : staleUpdateFlag true (timerAt n s) = true
    · simp only [if_pos hstale]; exact .raised _
    · simp only [if_neg hstale]
      refine .modifyTimer _ hi hn ⟨hinit, .filled mode hcb, fun _ hboth => hstale ?_⟩
      exact (Bool.true_and _).trans hboth.1

theorem armStInterval_effect {i : Instr} (mode : IntervalMode) (us cb : Word) (s : State) (hi : gptTarget i = none) :
    CommandEffect i s (armStInterval mode us cb s) := by
  refine stChecked_effect fun _ hcb hinit => ?_
  cases intervalTicks (usToTicks s.cfg s.st.clkDiv us) with
  | none => exact .raised _
  | some t => exact .stWritten _ hi (stWritten_stArm mode t hinit (check?_eq_some.mp hcb))

theorem blockingDelay_effect {i : Instr} (t : Nat) (s : State) (hi : gptTarget i = none) :
    CommandEffect i s (blockingDelay t s) := by
  unfold blockingDelay
  cases harmed : stArmed s.st with
  | true => exact .raised _
  | false => exact .delayIssued t hi harmed

/-- A command that goes on was not taken by a busy foreground, or had its effect in a ready block. -/
theorem command_effect {i : Instr} {f : State → State} {s t : State} (h : command f s = .next t)
    (hf : CommandEffect i s (f s)) : t = s ∨ (s.fg = .idle ∧ CommandEffect i s t) := by
  rcases (command_eq_next.mp h).2 with ⟨hfg, rfl⟩ | ⟨-, rfl⟩
  · exact .inr ⟨hfg, hf⟩
  · exact .inl rfl

/-- Everything an instruction that goes on can do: nothing (a command while the foreground is busy, an event of no timer
and of no line), the effect of a command in a ready block, or an event up to its `FgCheck()`. -/
theorem exec_next_cases {i : Instr} {s t : State} (h : exec i s = .next t) :
    (t = s ∨ (s.fg = .idle ∧ CommandEffect i s t)) ∨
    (∃ sel n, i = .gptTick sel ∧ sel.toNat = Fin.val n ∧ t = fgCheck (gptCount n s)) ∨
    (i = .stTick ∧ t = fgCheck (stCount s)) ∨
    ∃ line l, i = .extiEdge line ∧ t = fgCheck (deliverEdge l s) := by
  cases i with
  | gptInit sel arr unit dir arpe uie ckd =>
    rw [exec, execGptInit] at h
    refine .inl (command_effect h ?_)
    split
    · exact .answered ..
    · exact .answered ..
    · exact .answered ..
    · next ht _ _ => exact gptInitBody_effect _ _ _ _ _ _ rfl (timerIndex?_eq_some.mp ht)
  | gptEnable | gptDisable | gptSetPrescaler | gptSetPeriod | gptSetCountDirection | gptSetArrBuffer =>
    exact .inl (command_effect h (gptChecked_write_effect _ rfl fun _ _ hi => .of_eq hi rfl rfl rfl rfl))
  | gptSetInterrupt sel on =>
    refine .inl (command_effect h (gptChecked_effect fun n b hn _ hinit => ?_))
    split
    · exact .raised _
    · next hstale =>
      refine .modifyTimer _ rfl hn ⟨hinit, .refl _, fun _ hboth => hstale ?_⟩
      simp only [staleUpdateFlag, timerAt_def, Bool.and_eq_true]
      exact ⟨hboth.2, hboth.1⟩
  | gptBusyWait sel tickType ticks =>
    refine .inl (command_effect h (gptChecked_effect fun n _ hn _ hinit => ?_))
    split
    · exact .raised _
    · exact .waitIssued _ _ rfl hn ⟨hinit, .refl _, fun _ hboth => nomatch hboth.2⟩ rfl rfl
  | gptSetIntervalSingle | gptSetIntervalPeriodic =>
    exact .inl (command_effect h (armInterval_effect _ _ _ _ _ _ rfl))
  | gptGetRemainingTime sel =>
    refine .inl (command_effect h (gptChecked_effect fun n _ _ _ _ => ?_))
    unfold remainingTime
    split
    · split
      · exact .answered ..
      · exact .raised _
    · exact .answered ..
    · exact .raised _
  | gptGetCounterValue sel => exact .inl (command_effect h (gptChecked_effect fun n _ _ _ _ => .answered ..))
  | gptPwmInit sel arr channel mode freq =>
    refine .inl (command_effect h (gptChecked_effect fun n p hn _ hinit => ?_))
    split
    · exact .raised _
    · exact .timerWritten _ _ rfl hn (.of_eq hinit rfl rfl rfl rfl)
  | gptSetDutyCycle | gptPwmDeinit =>
    exact .inl (command_effect h (gptChecked_write_effect _ rfl fun _ _ hi => .of_eq hi rfl rfl rfl rfl))
  | stInit clk =>
    rw [exec, execStInit] at h
    refine .inl (command_effect h ?_)
    split
    · exact .answered ..
    · exact .stWritten _ rfl (stWritten_stInitWith ..)
  | stInitReload clk reload =>
    rw [exec, execStInitReload] at h
    refine .inl (command_effect h ?_)
    split
    · exact .answered ..
    · exact .answered ..
    · exact .stWritten _ rfl (stWritten_stInitWith ..)
  | stSetReload reload =>
    exact .inl (command_effect h (stChecked_effect fun n _ hinit => .stWritten _ rfl (stWritten_stProgram n hinit)))
  | stStart | stStop =>
    exact .inl (command_effect h (stChecked_effect fun _ _ hinit => .stWritten _ rfl ⟨hinit, .refl _, id, id⟩))
  | stReset =>
    exact .inl (command_effect h (stChecked_effect fun _ _ hinit =>
      .stWritten _ rfl ⟨hinit, .refl _, fun _ => BitVec.le_refl 0, id⟩))
  | stGetRemaining | stGetElapsed => exact .inl (command_effect h (stChecked_effect fun _ _ _ => .answered ..))
  | stDelayUs | stDelayMs => exact .inl (command_effect h (stChecked_effect fun _ _ _ => blockingDelay_effect _ _ rfl))
  | stSetIntervalSingle | stSetIntervalPeriodic => exact .inl (command_effect h (armStInterval_effect _ _ _ _ rfl))
  | usInit id range echoPin echoPort trigPin trigPort =>
    rw [exec, execUsInit] at h
    refine .inl (command_effect h ?_)
    split
    · split
      · exact .raised _
      · exact .sensorInited _ _ rfl rfl
    · exact .answered ..
  | usReadDistance id =>
    refine .inl (command_effect h (usChecked_effect fun _ r hr _ => ?_))
    split
    · split
      · split
        · exact .raised _
        · next harmed => exact .readIssued _ r rfl hr (Bool.eq_false_iff.mpr harmed)
      · exact .raised _
    · exact .answered ..
  | usSetRange id cm =>
    exact .inl (command_effect h (usChecked_effect fun _ r hr _ => .sensorWritten _ r _ rfl hr rfl fun _ => rfl))
  | usSetState id state =>
    exact .inl (command_effect h (usChecked_effect fun _ r hr _ => .sensorWritten _ r _ rfl hr rfl fun ht => ht))
  | gptTick sel =>
    rw [exec, execGptTick, event_eq_next] at h
    cases ht : timerIndex? sel with
    | none => exact .inl (.inl (by simpa [ht] using h.2))
    | some n =>
      exact .inr (.inl ⟨sel, n, rfl, timerIndex?_eq_some.mp ht, by simpa [ht] using h.2⟩)
  | stTick =>
    rw [exec, execStTick, event_eq_next] at h
    exact .inr (.inr (.inl ⟨rfl, h.2⟩))
  | extiEdge line =>
    rw [exec, execExtiEdge, event_eq_next] at h
    by_cases hl : line.toNat < 16
    · exact .inr (.inr (.inr ⟨line, ⟨line.toNat, hl⟩, rfl, by simpa [hl] using h.2⟩))
    · exact .inl (.inl (by simpa [hl] using h.2))

/-! ### Ticks -/

/-- What a tick leaves of a timer: with the update interrupt off it only counts (41_gpt_interval.md R141, R143,
R144). -/
structure TimerTicked (old new : Timer) : Prop where
  inited : new.inited = old.inited
  slot : new.slot = old.slot
  quiet : old.uie = false → new.cen = old.cen ∧ new.uie = false

/-- The state `u` a tick of timer `n` leaves, the timer being `t` then: a fault, or a timer with no stale update flag
and at most one callback. -/
def TimerOutcome (n : Fin 4) (t : Timer) (s u : State) : Prop :=
  (∃ r, u = raise r (s.putTimer n t)) ∨
  (¬(t.uif = true ∧ t.uie = true) ∧
    (u = s.putTimer n t ∨ ∃ cb, u = emit (.callback .gpt n.val cb) (s.putTimer n t)))

/-- A tick of `n` starts by writing timer `n`, which changes nothing of its outcome. -/
theorem TimerOutcome.of_putTimer {n : Fin 4} {t t' : Timer} {s u : State} (h : TimerOutcome n t' (s.putTimer n t) u) :
    TimerOutcome n t' s u := by
  simpa only [TimerOutcome, putTimer_putTimer] using h

theorem gptHandler_outcome (n : Fin 4) (s : State) :
    ∃ t : Timer, t.inited = s.timers[n].inited ∧ t.slot = s.timers[n].slot ∧ TimerOutcome n t s (gptHandler n s) := by
  rcases gptHandler_cases n s with ⟨-, e⟩ | ⟨cb, -, e⟩ | ⟨cb, -, e⟩
  · exact ⟨s.timers[n], rfl, rfl, .inl ⟨.noCallback, by rw [putTimer_self, e]⟩⟩
  · refine ⟨{ writeArr 0 { s.timers[n] with uie := false, cen := false } with uif := false }, rfl, rfl,
      .inr ⟨by simp, .inr ⟨cb, e.trans ?_⟩⟩⟩
    rw [modifyTimer_eq_putTimer, modifyTimer_eq_putTimer, putTimer_emit, putTimer_putTimer, emit_timers,
      putTimer_getElem_same]
  · exact ⟨{ s.timers[n] with uif := false }, rfl, rfl, .inr ⟨by simp, .inr ⟨cb, e⟩⟩⟩

theorem updateEvent_outcome (n : Fin 4) (s : State) :
    ∃ t, TimerTicked s.timers[n] t ∧ TimerOutcome n t s (updateEvent n s) := by
  obtain ⟨sh, -, ⟨hu, e⟩ | ⟨hu, e⟩⟩ := updateEvent_cases n s
  · exact ⟨{ s.timers[n] with uif := true, arrSh := sh }, ⟨rfl, rfl, fun _ => ⟨rfl, hu⟩⟩,
      .inr ⟨fun hboth => absurd hboth.2 (Bool.eq_false_iff.mp hu), .inl e⟩⟩
  · obtain ⟨t, hi, hs, ho⟩ := gptHandler_outcome n (s.putTimer n { s.timers[n] with uif := true, arrSh := sh })
    rw [putTimer_getElem_same] at hi hs
    exact ⟨t, ⟨hi, hs, fun hoff => absurd (hu.symm.trans hoff) (by decide)⟩, e ▸ ho.of_putTimer⟩

/-- The state `u` one tick of timer `n` leaves before the foreground is checked. -/
def GptTickEffect (n : Fin 4) (s u : State) : Prop :=
  ∃ t, TimerTicked s.timers[n] t ∧
    ((∃ r, u = raise r (s.putTimer n t)) ∨
     ((¬(s.timers[n].uif = true ∧ s.timers[n].uie = true) → ¬(t.uif = true ∧ t.uie = true)) ∧
      (u = s.putTimer n t ∨ ∃ cb, u = emit (.callback .gpt n.val cb) (s.putTimer n t))))

theorem gptTickEffect_count (n : Fin 4) (s : State) (v : Half) :
    GptTickEffect n s (s.putTimer n { s.timers[n] with cnt := v }) :=
  ⟨{ s.timers[n] with cnt := v }, ⟨rfl, rfl, fun hoff => ⟨rfl, hoff⟩⟩, .inr ⟨id, .inl rfl⟩⟩

/-- A tick that wraps the counter and then serves the update event. -/
theorem gptTickEffect_wrap (n : Fin 4) (s : State) (v : Half) :
    GptTickEffect n s (updateEvent n (s.putTimer n { s.timers[n] with cnt := v })) := by
  obtain ⟨t, ht, ho⟩ := updateEvent_outcome n (s.putTimer n { s.timers[n] with cnt := v })
  rw [putTimer_getElem_same] at ht
  exact ⟨t, ⟨ht.inited, ht.slot, ht.quiet⟩, ho.of_putTimer.imp_right fun ⟨hstale, hu⟩ => ⟨fun _ => hstale, hu⟩⟩

/-- Everything one tick of timer `n` can do before the foreground is checked, said of the timer it leaves. -/
theorem gptCount_effect (n : Fin 4) (s : State) : GptTickEffect n s (gptCount n s) := by
  have unchanged : TimerTicked s.timers[n] s.timers[n] := ⟨rfl, rfl, fun hoff => ⟨rfl, hoff⟩⟩
  rcases gptCount_cases n s with ⟨-, e⟩ | ⟨-, ⟨r, e⟩ | ⟨-, -, e⟩ | ⟨-, -, e⟩ | ⟨-, -, e⟩ | ⟨-, -, e⟩⟩
  · exact ⟨_, unchanged, .inr ⟨id, .inl (e.trans (putTimer_self s n).symm)⟩⟩
  · exact ⟨_, unchanged, .inl ⟨r, by rw [putTimer_self, e]⟩⟩
  · exact e ▸ gptTickEffect_count n s (s.timers[n].cnt + 1)
  · exact e ▸ gptTickEffect_wrap n s 0
  · exact e ▸ gptTickEffect_count n s (s.timers[n].cnt - 1)
  · exact e ▸ gptTickEffect_wrap n s s.timers[n].arrSh

/-- What a tick leaves of SysTick: with the tick interrupt off, a running count shows its end by `COUNTFLAG`
(43_systick.md R200, R201). -/
structure StTicked (old new : SysTick) : Prop where
  inited : new.inited = old.inited
  slot : new.slot = old.slot
  ovw : new.ovw = old.ovw
  count : old.val ≤ old.load → new.val ≤ new.load
  tickint : new.tickint = true → old.tickint = true
  quiet : old.tickint = false → new.enable = old.enable ∧
    (old.val ≠ 0 → old.countflag = false → new.countflag = false → new.val ≠ 0)

theorem StTicked.refl (st : SysTick) : StTicked st st :=
  ⟨rfl, rfl, rfl, id, id, fun _ => ⟨rfl, fun hv _ _ => hv⟩⟩

/-- The state `u` one tick of SysTick leaves before the foreground is checked; a callback or a fault comes of the tick
interrupt alone. -/
def StTickEffect (s u : State) : Prop :=
  ∃ st, StTicked s.st st ∧
    (u = s.putSt st ∨
     (s.st.tickint = true ∧ ((∃ r, u = raise r (s.putSt st)) ∨ ∃ cb, u = emit (.callback .st 0 cb) (s.putSt st))))

/-- Everything one tick of SysTick can do before the foreground is checked, said of the SysTick it leaves. -/
theorem stCount_effect (s : State) : StTickEffect s (stCount s) := by
  rcases stCount_cases s with ⟨-, e⟩ | ⟨-, ⟨hv, e⟩ | ⟨h0, h1, e⟩ | ⟨hv, -, e⟩ | ⟨hv, hon, e⟩⟩
  · exact ⟨s.st, .refl s.st, .inl e⟩
  · exact ⟨{ s.st with val := s.st.load }, ⟨rfl, rfl, rfl, fun _ => BitVec.le_refl _, id,
      fun _ => ⟨rfl, fun hne => absurd hv hne⟩⟩, .inl e⟩
  · exact ⟨{ s.st with val := s.st.val - 1 }, ⟨rfl, rfl, rfl, fun hle => by bv_omega, id,
      fun _ => ⟨rfl, fun _ _ _ => by bv_omega⟩⟩, .inl e⟩
  · exact ⟨{ s.st with val := 0, countflag := true }, ⟨rfl, rfl, rfl, fun _ => zero_le_load _, id,
      fun _ => ⟨rfl, fun _ _ h => nomatch h⟩⟩, .inl e⟩
  · have on {st : SysTick} (hi : st.inited = s.st.inited) (hs : st.slot = s.st.slot) (ho : st.ovw = s.st.ovw)
        (hc : st.val = 0) : StTicked s.st st :=
      ⟨hi, hs, ho, fun _ => hc ▸ zero_le_load _, fun _ => hon, fun hoff => absurd (hon.symm.trans hoff) (by decide)⟩
    rw [e]
    rcases stHandler_cases (modifySt (fun st => { st with val := 0, countflag := true }) s) with
      ⟨-, e⟩ | ⟨cb, -, e⟩ | ⟨cb, -, e⟩
    · exact ⟨{ s.st with val := 0, countflag := true }, on rfl rfl rfl rfl, .inr ⟨hon, .inl ⟨_, e⟩⟩⟩
    · exact ⟨{ s.st with val := 0, countflag := false, tickint := false, enable := false, load := 0 },
        on rfl rfl rfl rfl, .inr ⟨hon, .inr ⟨cb, e⟩⟩⟩
    · exact ⟨{ s.st with val := 0, countflag := false }, on rfl rfl rfl rfl, .inr ⟨hon, .inr ⟨cb, e⟩⟩⟩

/-! ### The foreground check -/

/-- What every round of the foreground check keeps, the whole check keeps. -/
theorem fgCheck_induction {P : State → Prop} {s : State} (h0 : P s) (hround : ∀ u v, P u → fgArm u = some v → P v) :
    P (fgCheck s) := by
  have hloop : ∀ k u, P u → P (fgLoop k u) := by
    intro k
    induction k with
    | zero => exact fun u hu => hu
    | succ k ih =>
      intro u hu
      unfold fgLoop
      split
      · exact hu
      · next v hv => exact ih v (hround u v hu hv)
  exact hloop 2 s h0

/-- The end of a distance read whose time is over (44_ultrasonic.md R238). -/
def readTimedOut (r : Sensor) (s : State) : State :=
  respond .ok outOfRange
    { modifySt (fun st => { st with enable := false })
        (setExtiEn r.echoPin false (emitCall (.extiDisableLine r.echoPin) s)) with
      ses := { s.ses with state := .idle }, fg := .idle }

theorem pollCheck_done {i : Nat} {r : Sensor} {s : State} (hr : sensorAt i s = some r) (hd : s.ses.state = .done) :
    pollCheck i s = some (respond .ok (BitVec.ofNat 32 s.ses.distance) { s with fg := .idle }) := by
  simp [pollCheck, hr, hd]

theorem pollCheck_polling {i : Nat} {r : Sensor} {s : State} (hr : sensorAt i s = some r) (hd : s.ses.state ≠ .done)
    (he : elapsed s.st ≤ r.timeout) : pollCheck i s = none := by
  simp [pollCheck, hr, hd, Nat.not_lt.mpr he]

theorem pollCheck_timeout {i : Nat} {r : Sensor} {s : State} (hr : sensorAt i s = some r) (hd : s.ses.state ≠ .done)
    (he : r.timeout < elapsed s.st) : pollCheck i s = some (readTimedOut r s) := by
  simp only [pollCheck, hr, if_neg hd, if_pos he]
  rfl

/-- The rounds of the check while a busy-wait runs. -/
theorem fgArm_gptWait {s : State} {n : Fin 4} {target : Half} (hf : s.fault = none) (hfg : s.fg = .gptWait n target) :
    fgArm s = if s.timers[n].cnt = target then some (busyWaitDone n s) else none := by
  simp only [fgArm, hf, hfg]
  rfl

/-- Everything one round of the foreground check can do (10_state.md R22). -/
theorem fgArm_cases {s t : State} (h : fgArm s = some t) :
    s.fault = none ∧
    ((∃ n target, s.fg = .gptWait n target ∧ s.timers[n].cnt = target ∧ t = busyWaitDone n s) ∨
     (∃ rest k, s.fg = .stDelay rest k ∧ s.st.countflag = true ∧ t = delaySegmentDone rest k s) ∨
     ∃ i, s.fg = .usPoll i ∧
       ((sensorAt i s = none ∧ t = raise .notInitialised s) ∨
        ∃ r, sensorAt i s = some r ∧
          ((s.ses.state = .done ∧ t = respond .ok (BitVec.ofNat 32 s.ses.distance) { s with fg := .idle }) ∨
           (s.ses.state ≠ .done ∧ r.timeout < elapsed s.st ∧ t = readTimedOut r s)))) := by
  have hf : s.fault = none := by
    by_contra hf
    rw [fgArm_of_fault hf] at h
    cases h
  refine ⟨hf, ?_⟩
  cases hfg : s.fg with
  | idle => rw [fgArm_of_idle hfg] at h; cases h
  | gptWait n target =>
    rw [fgArm_gptWait hf hfg, Option.ite_none_right_eq_some] at h
    exact .inl ⟨n, target, rfl, h.1, (Option.some.inj h.2).symm⟩
  | stDelay rest k =>
    rw [fgArm_stDelay hf hfg, Option.ite_none_right_eq_some] at h
    exact .inr (.inl ⟨rest, k, rfl, h.1, (Option.some.inj h.2).symm⟩)
  | usPoll i =>
    refine .inr (.inr ⟨i, rfl, ?_⟩)
    rw [fgArm_usPoll hf hfg] at h
    cases hr : sensorAt i s with
    | none => simp only [pollCheck, hr, Option.some.injEq] at h; exact .inl ⟨rfl, h.symm⟩
    | some r =>
      refine .inr ⟨r, rfl, ?_⟩
      by_cases hd : s.ses.state = .done
      · rw [pollCheck_done hr hd] at h
        exact .inl ⟨hd, (Option.some.inj h).symm⟩
      · by_cases he : r.timeout < elapsed s.st
        · rw [pollCheck_timeout hr hd he] at h
          exact .inr ⟨hd, he, (Option.some.inj h).symm⟩
        · rw [pollCheck_polling hr hd (Nat.not_lt.mp he)] at h
          cases h

/-- `t` differs from `s` in SysTick, the foreground, the fault and what it has emitted, and in no other part of the
state; its foreground is no busy-wait but one that `s` is in. -/
structure DelayFrame (s t : State) : Prop where
  cfg : t.cfg = s.cfg
  timers : t.timers = s.timers
  sensors : t.sensors = s.sensors
  ses : t.ses = s.ses
  extiEn : t.extiEn = s.extiEn
  extiReg : t.extiReg = s.extiReg
  out : s.out <+: t.out
  waits : ∀ n target, t.fg = .gptWait n target → s.fg = .gptWait n target

theorem DelayFrame.trans {s t u : State} (hst : DelayFrame s t) (htu : DelayFrame t u) : DelayFrame s u :=
  ⟨htu.cfg.trans hst.cfg, htu.timers.trans hst.timers, htu.sensors.trans hst.sensors, htu.ses.trans hst.ses,
    htu.extiEn.trans hst.extiEn, htu.extiReg.trans hst.extiReg, hst.out.trans htu.out,
    fun n target h => hst.waits n target (htu.waits n target h)⟩

theorem delayFrame_raise (r : Reason) (s : State) : DelayFrame s (raise r s) :=
  ⟨by simp, by simp, by simp, by simp, by simp, by simp, by simp, by simp⟩

theorem delayFrame_emit (r : Record) (s : State) : DelayFrame s (emit r s) :=
  ⟨rfl, rfl, rfl, rfl, rfl, rfl, List.prefix_append .., fun _ _ h => h⟩

theorem delayFrame_put (s : State) (st : SysTick) {fg : Foreground} (hfg : ∀ n target, fg ≠ .gptWait n target) :
    DelayFrame s { s.putSt st with fg := fg } :=
  ⟨rfl, rfl, rfl, rfl, rfl, rfl, List.prefix_refl _, fun n target h => absurd h (hfg n target)⟩

theorem startDelay_frame (t : Nat) (k : Continuation) (s : State) : DelayFrame s (startDelay t k s) := by
  rcases startDelay_cases t k s with e | ⟨n, rest, -, e⟩ <;> rw [e]
  · exact delayFrame_raise _ s
  · exact delayFrame_put s _ nofun

theorem delaySegmentDone_frame (rest : List Ticks) (k : Continuation) (s : State) :
    DelayFrame s (delaySegmentDone rest k s) := by
  cases rest with
  | cons n rest => exact delayFrame_put s _ nofun
  | nil =>
    refine (delayFrame_put s { stProgram 0 s.st with enable := false } (fg := .idle) nofun).trans ?_
    cases k with
    | respond => exact delayFrame_emit _ _
    | usTrigHigh i =>
      show DelayFrame _ (trigHighPhase i _)
      unfold trigHighPhase
      split
      · exact delayFrame_raise _ _
      · exact (delayFrame_emit _ _).trans (startDelay_frame ..)
    | usTrigLow i =>
      show DelayFrame _ (trigLowPhase i _)
      unfold trigLowPhase
      split
      · exact delayFrame_raise _ _
      · exact (delayFrame_emit _ _).trans (delayFrame_put _ _ (fg := .usPoll i) nofun)

end Sys2Proof.Machine
end

section
/-! Every step keeps the invariant (10_state.md R22, R33, R37, R41, R43; 60_exceptions.md R278; 43_systick.md R201;
70_reset_and_hazards.md R303). The invariant is cut in two: `UnitsInv`, what holds of the units, and a foreground that
runs; the latter holds inside a step too, before `FgCheck()` has looked at the wait condition. -/

namespace Sys2Proof.Machine

/-! ### The invariant of the units -/

/-- SysTick's part: `VAL ≤ LOAD`, the tick interrupt only with a slot on an initialised SysTick, no null handle
(10_state.md R37, R39; 43_systick.md R201). -/
structure SysTickOk (st : SysTick) : Prop where
  count : st.val ≤ st.load
  tickint : st.tickint = true → st.slot.isSome = true ∧ st.inited = true
  handle : ∀ x ∈ st.slot, x.cb ≠ 0

/-- `State.Inv` but for the foreground. -/
structure State.UnitsInv (s : State) : Prop where
  st : SysTickOk s.st
  noStaleFlag : s.NoStaleFlag
  handles : ∀ n : Fin 4, ∀ x ∈ s.timers[n].slot, x.cb ≠ 0
  sensors : s.SensorsConsistent
  lines : s.EnabledLinesRegistered
  distance : s.DistanceBounded

theorem inv_iff {s : State} : s.Inv ↔ s.UnitsInv ∧ s.ForegroundSettled :=
  ⟨fun h => ⟨⟨⟨h.countWithinLoad, h.tickintHasSlot, h.handlesNonNull.2⟩, h.noStaleFlag, h.handlesNonNull.1,
      h.sensorsConsistent, h.enabledLinesRegistered, h.distanceBounded⟩, h.foregroundSettled⟩,
   fun ⟨h, hfg⟩ => ⟨h.st.count, h.noStaleFlag, h.st.tickint, ⟨h.handles, h.st.handle⟩, h.sensors, h.lines, h.distance,
      hfg⟩⟩

/-- A record stands at a place there is. -/
theorem lt_of_sensorAt {i : Nat} {r : Sensor} {s : State} (h : sensorAt i s = some r) : i < s.sensors.length := by
  by_contra hge
  simp [sensorAt, List.getElem?_eq_none (Nat.not_lt.mp hge)] at h

section UnitRules
variable {s : State}

theorem State.UnitsInv.putOut (h : s.UnitsInv) (records : List Record) : { s with out := records }.UnitsInv :=
  ⟨h.st, h.noStaleFlag, h.handles, h.sensors, h.lines, h.distance⟩

theorem State.UnitsInv.emit (h : s.UnitsInv) (r : Record) : (emit r s).UnitsInv := h.putOut _

theorem State.UnitsInv.respond (h : s.UnitsInv) (x : Status) (v : Word) : (respond x v s).UnitsInv := h.emit _

theorem State.UnitsInv.putFg (h : s.UnitsInv) (fg : Foreground) : { s with fg := fg }.UnitsInv :=
  ⟨h.st, h.noStaleFlag, h.handles, h.sensors, h.lines, h.distance⟩

theorem State.UnitsInv.putDrawCount (h : s.UnitsInv) (draws : Nat) : { s with drawCount := draws }.UnitsInv :=
  ⟨h.st, h.noStaleFlag, h.handles, h.sensors, h.lines, h.distance⟩

theorem State.UnitsInv.raise (h : s.UnitsInv) (r : Reason) : (raise r s).UnitsInv := by
  cases hf : s.fault with
  | some r' => rwa [raise_of_some hf]
  | none =>
    rw [raise_of_none hf]
    exact ⟨h.st, (fun hset => nomatch hset), h.handles, h.sensors, h.lines, h.distance⟩

theorem State.UnitsInv.putSt (h : s.UnitsInv) {st : SysTick} (hst : SysTickOk st)
    (hi : s.st.inited = true → st.inited = true) : (s.putSt st).UnitsInv := by
  refine ⟨hst, h.noStaleFlag, h.handles, ⟨h.sensors.1, fun i r hr => ?_⟩, h.lines, h.distance⟩
  obtain ⟨htimeout, hreg, hinit⟩ := h.sensors.2 i r hr
  exact ⟨htimeout, hreg, hi hinit⟩

/-- Once a fault is set the flags are free: the claim about them is one about a block that goes on. -/
theorem State.UnitsInv.putTimer (h : s.UnitsInv) (n : Fin 4) {t : Timer} (hh : ∀ x ∈ t.slot, x.cb ≠ 0)
    (hstale : s.fault = none → ¬(t.uif = true ∧ t.uie = true)) : (s.putTimer n t).UnitsInv := by
  refine ⟨h.st, fun hf m => ?_, fun m => ?_, h.sensors, h.lines, h.distance⟩
  all_goals
    rw [putTimer_getElem]
    split
  · exact hstale hf
  · exact h.noStaleFlag hf m
  · exact hh
  · exact h.handles m

theorem State.UnitsInv.putSes (h : s.UnitsInv) {ses : Session} (hd : ses.distance ≤ 285212655) :
    { s with ses := ses }.UnitsInv :=
  ⟨h.st, h.noStaleFlag, h.handles, h.sensors, h.lines, hd⟩

theorem State.UnitsInv.setExtiEn (h : s.UnitsInv) {l : Nibble} {b : Bool}
    (hb : b = true → s.extiReg[l.toNat]'l.isLt = true) : (setExtiEn l b s).UnitsInv := by
  refine ⟨h.st, h.noStaleFlag, h.handles, h.sensors, fun m hm => ?_, h.distance⟩
  have hm : (s.extiEn.set l.toNat b l.isLt)[m.val] = true := hm
  rw [Vector.getElem_set] at hm
  split at hm
  · next hl => simpa [← hl] using hb hm
  · exact h.lines m hm

theorem State.UnitsInv.setExtiReg (h : s.UnitsInv) (l : Nibble) : (setExtiReg l s).UnitsInv := by
  have keeps {m : Nat} (hm : m < 16) (hreg : s.extiReg[m] = true) : (s.extiReg.set l.toNat true l.isLt)[m] = true := by
    rw [Vector.getElem_set]; split
    · rfl
    · exact hreg
  refine ⟨h.st, h.noStaleFlag, h.handles, ⟨h.sensors.1, fun i r hr => ?_⟩, fun m hm => keeps m.isLt (h.lines m hm),
    h.distance⟩
  obtain ⟨htimeout, hreg, hinit⟩ := h.sensors.2 i r hr
  exact ⟨htimeout, keeps r.echoPin.isLt hreg, hinit⟩

theorem State.UnitsInv.setSensor (h : s.UnitsInv) (k : Nat) {r : Sensor} (ht : r.timeout = timeoutTicks r.range)
    (hreg : s.extiReg[r.echoPin.toNat]'r.echoPin.isLt = true) (hi : s.st.inited = true) :
    (setSensor k r s).UnitsInv := by
  refine ⟨h.st, h.noStaleFlag, h.handles, ⟨(List.length_set ..).trans h.sensors.1, fun i r' hr' => ?_⟩, h.lines,
    h.distance⟩
  by_cases hik : i = k
  · subst hik
    obtain rfl : r = r' := by
      have hlt := lt_of_sensorAt hr'
      rw [setSensor_sensors, List.length_set] at hlt
      rw [sensorAt_setSensor_same hlt] at hr'
      exact Option.some.inj hr'
    exact ⟨ht, hreg, hi⟩
  · rw [sensorAt_setSensor_of_ne hik] at hr'
    exact h.sensors.2 i r' hr'

end UnitRules

/-! ### The SysTick of the invariant -/

theorem SysTickOk.of_written {old new : SysTick} (h : SysTickOk old) (hw : StWritten old new) : SysTickOk new :=
  ⟨hw.count h.count, fun ht => ⟨hw.tickint (fun hold => (h.tickint hold).1) ht, hw.inited⟩,
    hw.slot.cb_ne_zero h.handle⟩

theorem SysTickOk.of_ticked {old new : SysTick} (h : SysTickOk old) (ht : StTicked old new) : SysTickOk new := by
  refine ⟨ht.count h.count, fun hon => ?_, ?_⟩
  · rw [ht.slot, ht.inited]; exact h.tickint (ht.tickint hon)
  · rw [ht.slot]; exact h.handle

/-- Programming the counter keeps the invariant, whatever becomes of `ENABLE`. -/
theorem SysTickOk.stProgram {st : SysTick} (h : SysTickOk st) (n : Ticks) (b : Bool) :
    SysTickOk { stProgram n st with enable := b } :=
  ⟨BitVec.le_refl n, h.tickint, h.handle⟩

theorem SysTickOk.enable {st : SysTick} (h : SysTickOk st) (b : Bool) : SysTickOk { st with enable := b } :=
  ⟨h.count, h.tickint, h.handle⟩

/-- With the tick interrupt not armed it is off: it would need the slot. -/
theorem SysTickOk.tickint_of_unarmed {st : SysTick} (h : SysTickOk st) (ha : stArmed st = false) :
    st.tickint = false := by
  cases ht : st.tickint with
  | false => rfl
  | true => exact absurd ((h.tickint ht).1.symm.trans (stArmed_eq_false.mp ha ht)) (by decide)

theorem distanceOf_elapsed_le (st : SysTick) : distanceOf (elapsed st) ≤ 285212655 := by
  have := st.load.isLt
  unfold distanceOf elapsed
  omega

/-! ### A foreground that runs -/

/-- The session a delay with this continuation runs under, and the sensor it will drive (44_ultrasonic.md R235,
R237). -/
def ContinuationOk (s : State) (k : Continuation) : Prop :=
  match contSensor k with
  | none => sessionQuiet s.ses
  | some i => (sensorAt i s).isSome = true ∧ s.ses.state = .waitingForRisingEdge

/-- `ForegroundOk` but for the wait condition: the operation in progress is one that runs, whether or not its wait is
over. -/
def ForegroundRuns (s : State) : Foreground → Prop
  | .idle => sessionQuiet s.ses
  | .gptWait n _ =>
    sessionQuiet s.ses ∧ s.timers[n].inited = true ∧ s.timers[n].cen = true ∧ s.timers[n].uie = false
  | .stDelay rest k =>
    s.st.enable = true ∧ s.st.tickint = false ∧ (s.st.countflag = false → s.st.val ≠ 0) ∧ (∀ x ∈ rest, x ≠ 0) ∧
      ContinuationOk s k
  | .usPoll i =>
    s.st.tickint = false ∧
    (s.ses.state = .done ∨
      s.st.enable = true ∧ (s.ses.state = .waitingForRisingEdge ∨ s.ses.state = .waitingForFallingEdge)) ∧
    (sensorAt i s).isSome = true

/-- What holds inside a step, before `FgCheck()`. -/
structure State.Running (s : State) : Prop where
  units : s.UnitsInv
  foreground : s.fault = none → ForegroundRuns s s.fg

/-- A foreground that is settled runs. -/
theorem foregroundRuns_of_ok {s : State} {fg : Foreground} (h : ForegroundOk s fg) : ForegroundRuns s fg := by
  cases fg with
  | idle => exact h
  | gptWait n target =>
    obtain ⟨hses, hinit, hcen, huie, -⟩ := h
    exact ⟨hses, hinit, hcen, huie⟩
  | stDelay rest k =>
    obtain ⟨hen, htick, -, hval, hrest, hk⟩ := h
    exact ⟨hen, htick, fun _ => hval, hrest, by cases k <;> exact hk⟩
  | usPoll i =>
    obtain ⟨hen, htick, hses, r, hr, -⟩ := h
    exact ⟨htick, .inr ⟨hen, hses⟩, by simp [hr]⟩

/-- A settled foreground has no arm of `FgCheck()` to take (10_state.md R22). -/
theorem fgArm_of_foregroundSettled {s : State} (h : s.ForegroundSettled) : fgArm s = none := by
  cases harm : fgArm s with
  | none => rfl
  | some t =>
    obtain ⟨hf, ⟨n, target, hfg, hcnt, -⟩ | ⟨rest, k, hfg, hflag, -⟩ | ⟨i, hfg, hpoll⟩⟩ := fgArm_cases harm <;>
      have hok := h hf <;> rw [hfg] at hok
    · obtain ⟨-, -, -, -, hne⟩ := hok
      exact absurd hcnt hne
    · obtain ⟨-, -, hflag', -⟩ := hok
      exact absurd (hflag.symm.trans hflag') (by decide)
    · obtain ⟨-, -, hses, r, hr, hle⟩ := hok
      obtain ⟨hnone, -⟩ | ⟨r', hr', ⟨hd, -⟩ | ⟨-, hlt, -⟩⟩ := hpoll
      · exact absurd (hr.symm.trans hnone) nofun
      · rcases hses with e | e <;> exact absurd (hd.symm.trans e) nofun
      · obtain rfl := Option.some.inj (hr.symm.trans hr')
        exact absurd hlt (Nat.not_lt.mpr hle)

/-- A foreground that runs and has no arm to take is settled. -/
theorem foregroundSettled_of_runs {s : State} (h : s.fault = none → ForegroundRuns s s.fg) (harm : fgArm s = none) :
    s.ForegroundSettled := by
  intro hf
  have hruns := h hf
  cases hfg : s.fg with
  | idle => rwa [hfg] at hruns
  | gptWait n target =>
    rw [hfg] at hruns
    obtain ⟨hses, hinit, hcen, huie⟩ := hruns
    refine ⟨hses, hinit, hcen, huie, fun hcnt => ?_⟩
    rw [fgArm_gptWait hf hfg, if_pos hcnt] at harm
    cases harm
  | stDelay rest k =>
    rw [hfg] at hruns
    obtain ⟨hen, htick, hval, hrest, hk⟩ := hruns
    have hflag : s.st.countflag = false := by simpa [fgArm_stDelay hf hfg] using harm
    exact ⟨hen, htick, hflag, hval hflag, hrest, by cases k <;> exact hk⟩
  | usPoll i =>
    rw [hfg] at hruns
    obtain ⟨htick, hses, hsome⟩ := hruns
    obtain ⟨r, hr⟩ := Option.isSome_iff_exists.mp hsome
    rw [fgArm_usPoll hf hfg] at harm
    rcases pollCheck_cases hr with ⟨-, e⟩ | ⟨hd, hle, -⟩ | ⟨-, -, t, e, -⟩
    · exact absurd (harm.symm.trans e) nofun
    · obtain ⟨hen, hses⟩ := hses.resolve_left hd
      exact ⟨hen, htick, hses, r, hr, hle⟩
    · exact absurd (harm.symm.trans e) nofun

theorem State.Inv.running {s : State} (h : s.Inv) : s.Running :=
  ⟨(inv_iff.mp h).1, fun hf => foregroundRuns_of_ok (h.foregroundSettled hf)⟩

theorem State.Running.inv_of_settled {s : State} (h : s.Running) (harm : fgArm s = none) : s.Inv :=
  inv_iff.mpr ⟨h.units, foregroundSettled_of_runs h.foreground harm⟩

/-- What the foreground reads of the state. -/
theorem foregroundRuns_congr {s t : State} (ht : t.timers = s.timers) (hst : t.st = s.st) (hs : t.sensors = s.sensors)
    (hses : t.ses = s.ses) {fg : Foreground} (h : ForegroundRuns s fg) : ForegroundRuns t fg := by
  cases fg with
  | idle => simpa only [ForegroundRuns, hses] using h
  | gptWait n target => simpa only [ForegroundRuns, hses, ht] using h
  | stDelay rest k =>
    simpa only [ForegroundRuns, ContinuationOk, hst, hses, sensorAt_congr hs] using h
  | usPoll i => simpa only [ForegroundRuns, hst, hses, sensorAt_congr hs] using h

/-- A record emitted changes nothing of what runs. -/
theorem State.Running.emit {s : State} (h : s.Running) (r : Record) : (emit r s).Running :=
  ⟨h.units.emit r, fun hf => foregroundRuns_congr rfl rfl rfl rfl (h.foreground hf)⟩

theorem running_raise {s : State} (h : s.UnitsInv) (r : Reason) : (raise r s).Running :=
  ⟨h.raise r, fun hf => absurd hf (raise_fault_ne_none r s)⟩

/-! ### The operations keep it -/

/-- A delay that starts runs, on a SysTick whose tick interrupt is off. -/
theorem startDelay_running {s : State} (h : s.UnitsInv) (htick : s.st.tickint = false) (t : Nat) {k : Continuation}
    (hk : ContinuationOk s k) : (startDelay t k s).Running := by
  rcases startDelay_cases t k s with e | ⟨n, rest, hseg, e⟩ <;> rw [e]
  · exact running_raise h _
  · have hne := segments_ne_zero hseg
    refine ⟨(h.putSt (h.st.stProgram n true) id).putFg _, fun _ => ⟨rfl, htick, fun _ => hne n (by simp), ?_, ?_⟩⟩
    · exact fun x hx => hne x (List.mem_cons_of_mem n hx)
    · cases k <;> exact hk

theorem busyWaitDone_running {s : State} (h : s.UnitsInv) (n : Fin 4) (hses : sessionQuiet s.ses)
    (huie : s.timers[n].uie = false) : (busyWaitDone n s).Running :=
  ⟨((h.putTimer n (t := writeArr 0 { s.timers[n] with cen := false, cnt := 0 }) (h.handles n)
      fun _ hboth => absurd (huie.symm.trans hboth.2) (by decide)).putFg .idle).respond .ok 0, fun _ => hses⟩

theorem trigHighPhase_running {s : State} (h : s.UnitsInv) (htick : s.st.tickint = false) (i : Nat)
    (hk : ContinuationOk s (.usTrigLow i)) : (trigHighPhase i s).Running := by
  unfold trigHighPhase
  split
  · exact running_raise h _
  · exact startDelay_running (h.emit _) htick _ hk

theorem trigLowPhase_running {s : State} (h : s.UnitsInv) (htick : s.st.tickint = false) (i : Nat)
    (hk : ContinuationOk s (.usTrigLow i)) : (trigLowPhase i s).Running := by
  obtain ⟨hsome, hses⟩ := hk
  unfold trigLowPhase
  split
  · exact running_raise h _
  · exact ⟨((h.emit _).putSt (h.st.stProgram _ true) id).putFg _,
      fun _ => ⟨htick, .inr ⟨rfl, .inl hses⟩, hsome⟩⟩

/-- A segment that ends leaves the next one running, or what the continuation starts. -/
theorem delaySegmentDone_running {s : State} {rest : List Ticks} {k : Continuation} (h : s.UnitsInv)
    (hruns : ForegroundRuns s (.stDelay rest k)) : (delaySegmentDone rest k s).Running := by
  obtain ⟨hen, htick, -, hrest, hk⟩ := hruns
  cases rest with
  | cons n rest =>
    refine ⟨(h.putSt (st := stProgram n s.st) ⟨BitVec.le_refl n, h.st.tickint, h.st.handle⟩ id).putFg _,
      fun _ => ⟨hen, htick, fun _ => hrest n (by simp), ?_, ?_⟩⟩
    · exact fun x hx => hrest x (List.mem_cons_of_mem n hx)
    · cases k <;> exact hk
  | nil =>
    have hstopped := (h.putSt (h.st.stProgram 0 false) id).putFg .idle
    cases k with
    | respond => exact ⟨hstopped.respond .ok 0, fun _ => hk⟩
    | usTrigHigh i => exact trigHighPhase_running hstopped htick i hk
    | usTrigLow i => exact trigLowPhase_running hstopped htick i hk

theorem readTimedOut_running {s : State} (h : s.UnitsInv) (r : Sensor) : (readTimedOut r s).Running := by
  have hline := (h.emit (.call (.extiDisableLine r.echoPin))).setExtiEn (l := r.echoPin) (b := false) nofun
  have hstopped := hline.putSt (st := { s.st with enable := false }) (h.st.enable false) id
  have hidle := (hstopped.putSes (ses := { s.ses with state := .idle }) h.distance).putFg .idle
  exact ⟨hidle.respond .ok outOfRange, fun _ => .inl rfl⟩

/-- A round of `FgCheck()` keeps what holds inside a step. -/
theorem fgArm_running {s t : State} (h : s.Running) (harm : fgArm s = some t) : t.Running := by
  obtain ⟨hf, ⟨n, target, hfg, -, rfl⟩ | ⟨rest, k, hfg, -, rfl⟩ | ⟨i, hfg, hpoll⟩⟩ := fgArm_cases harm <;>
    have hruns := h.foreground hf <;> rw [hfg] at hruns
  · obtain ⟨hses, -, -, huie⟩ := hruns
    exact busyWaitDone_running h.units n hses huie
  · exact delaySegmentDone_running h.units hruns
  · obtain ⟨-, rfl⟩ | ⟨r, -, ⟨hd, rfl⟩ | ⟨-, -, rfl⟩⟩ := hpoll
    · exact running_raise h.units _
    · exact ⟨(h.units.putFg .idle).respond _ _, fun _ => .inr hd⟩
    · exact readTimedOut_running h.units r

/-- The foreground check settles what runs. -/
theorem State.Running.fgCheck_inv {s : State} (h : s.Running) : (fgCheck s).Inv :=
  State.Running.inv_of_settled (fgCheck_induction h fun _ _ => fgArm_running) (fgArm_fgCheck s)

/-! ### The events keep it -/

/-- What a timer's tick leaves of a foreground that runs: a wait on that timer has its interrupt off. -/
theorem foregroundRuns_putTimer {s : State} {n : Fin 4} {t : Timer} {fg : Foreground} (h : ForegroundRuns s fg)
    (ht : TimerTicked s.timers[n] t) : ForegroundRuns (s.putTimer n t) fg := by
  cases fg with
  | idle => exact h
  | stDelay rest k => exact h
  | usPoll i => exact h
  | gptWait m target =>
    obtain ⟨hses, hinit, hcen, huie⟩ := h
    by_cases hmn : m = n
    · subst hmn
      obtain ⟨hcen', huie'⟩ := ht.quiet huie
      refine ⟨hses, ?_⟩
      rw [putTimer_getElem_same]
      exact ⟨ht.inited.trans hinit, hcen'.trans hcen, huie'⟩
    · refine ⟨hses, ?_⟩
      rw [putTimer_getElem_of_ne hmn]
      exact ⟨hinit, hcen, huie⟩

theorem gptCount_running {s : State} (h : s.Inv) (n : Fin 4) : (gptCount n s).Running := by
  have hu := h.running.units
  obtain ⟨t, ht, hout⟩ := gptCount_effect n s
  have hslot : ∀ x ∈ t.slot, x.cb ≠ 0 := ht.slot ▸ hu.handles n
  obtain ⟨r, e⟩ | ⟨hstale, hout⟩ := hout
  · rw [e, raise_putTimer]
    have hf := raise_fault_ne_none r s
    exact ⟨(hu.raise r).putTimer n hslot fun hn => absurd hn hf, fun hn => absurd hn hf⟩
  · have hrun : (s.putTimer n t).Running :=
      ⟨hu.putTimer n hslot fun hf => hstale (hu.noStaleFlag hf n),
        fun hf => foregroundRuns_putTimer (h.running.foreground hf) ht⟩
    rcases hout with e | ⟨cb, e⟩ <;> rw [e]
    · exact hrun
    · exact hrun.emit _

/-- What SysTick's tick leaves of a settled foreground: an operation that waits on SysTick has its interrupt off. -/
theorem foregroundRuns_putSt {s : State} {st : SysTick} {fg : Foreground} (h : ForegroundOk s fg)
    (ht : StTicked s.st st) : ForegroundRuns (s.putSt st) fg := by
  cases fg with
  | idle => exact h
  | gptWait m target =>
    obtain ⟨hses, hinit, hcen, huie, -⟩ := h
    exact ⟨hses, hinit, hcen, huie⟩
  | stDelay rest k =>
    obtain ⟨hen, htick, hflag, hval, hrest, hk⟩ := h
    obtain ⟨hen', hcount⟩ := ht.quiet htick
    exact ⟨hen'.trans hen, Bool.eq_false_iff.mpr fun hon => absurd (htick.symm.trans (ht.tickint hon)) (by decide),
      hcount hval hflag, hrest, by cases k <;> exact hk⟩
  | usPoll i =>
    obtain ⟨hen, htick, hses, r, hr, -⟩ := h
    obtain ⟨hen', -⟩ := ht.quiet htick
    exact ⟨Bool.eq_false_iff.mpr fun hon => absurd (htick.symm.trans (ht.tickint hon)) (by decide),
      .inr ⟨hen'.trans hen, hses⟩, Option.isSome_iff_exists.mpr ⟨r, hr⟩⟩

theorem stCount_running {s : State} (h : s.Inv) : (stCount s).Running := by
  have hu := h.running.units
  obtain ⟨st, ht, hout⟩ := stCount_effect s
  have hrun : (s.putSt st).Running :=
    ⟨hu.putSt (hu.st.of_ticked ht) ht.inited.trans, fun hf => foregroundRuns_putSt (h.foregroundSettled hf) ht⟩
  obtain e | ⟨-, ⟨r, e⟩ | ⟨cb, e⟩⟩ := hout <;> rw [e]
  · exact hrun
  · exact running_raise hrun.units r
  · exact hrun.emit _

/-- An edge the session waits for comes while the read polls (44_ultrasonic.md R240, R241). -/
theorem fg_eq_usPoll_of_falling {s : State} (h : ForegroundOk s s.fg) (hses : s.ses.state = .waitingForFallingEdge) :
    ∃ i, s.fg = .usPoll i := by
  have hquiet : ¬ sessionQuiet s.ses := by simp [sessionQuiet, hses]
  cases hfg : s.fg with
  | idle => rw [hfg] at h; exact absurd h hquiet
  | gptWait n target => rw [hfg] at h; exact absurd h.1 hquiet
  | stDelay rest k =>
    rw [hfg] at h
    obtain ⟨-, -, -, -, -, hk⟩ := h
    cases k with
    | respond => exact absurd hk hquiet
    | usTrigHigh i => exact absurd (hses.symm.trans hk.2) nofun
    | usTrigLow i => exact absurd (hses.symm.trans hk.2) nofun
  | usPoll i => exact ⟨i, rfl⟩

theorem edgeHandler_running {s : State} (h : s.Inv) : (edgeHandler s).Running := by
  have hu := h.running.units
  rcases edgeHandler_cases s with ⟨r, e⟩ | ⟨hses, hpoll, e⟩ | ⟨hses, e⟩ | ⟨-, e⟩ <;> rw [e]
  · exact running_raise hu r
  · obtain ⟨i, hfg⟩ := polling_eq_true.mp hpoll
    refine ⟨(hu.putSt (hu.st.stProgram _ true) id).putSes hu.distance, fun hf => ?_⟩
    have hruns := h.running.foreground hf
    rw [hfg] at hruns
    obtain ⟨htick, -, hsome⟩ := hruns
    show ForegroundRuns _ s.fg
    rw [hfg]
    exact ⟨htick, .inr ⟨rfl, .inr rfl⟩, hsome⟩
  · refine ⟨(hu.putSt (hu.st.enable false) id).putSes (distanceOf_elapsed_le s.st), fun hf => ?_⟩
    obtain ⟨i, hfg⟩ := fg_eq_usPoll_of_falling (h.foregroundSettled hf) hses
    have hruns := h.running.foreground hf
    rw [hfg] at hruns
    obtain ⟨htick, -, hsome⟩ := hruns
    show ForegroundRuns _ s.fg
    rw [hfg]
    exact ⟨htick, .inl rfl, hsome⟩
  · exact h.running

theorem deliverEdge_running {s : State} (h : s.Inv) (l : Fin 16) : (deliverEdge l s).Running := by
  unfold deliverEdge
  split
  · exact edgeHandler_running h
  · exact h.running

/-! ### The commands keep it -/

/-- No read is in progress while the foreground is idle (44_ultrasonic.md R241). -/
theorem sessionQuiet_of_idle {s : State} (h : s.Inv) (hf : s.fault = none) (hfg : s.fg = .idle) :
    sessionQuiet s.ses := by
  have hok := h.foregroundSettled hf
  rwa [hfg] at hok

theorem inv_of_idle {s : State} (h : s.UnitsInv) (hfg : s.fg = .idle) (hses : sessionQuiet s.ses) : s.Inv :=
  State.Running.inv_of_settled ⟨h, fun _ => hfg ▸ hses⟩ (fgArm_of_idle hfg)

theorem usInitBody_units {s : State} (h : s.UnitsInv) (k : Nat) {r : Sensor} (ht : r.timeout = timeoutTicks r.range) :
    (usInitBody k r s).UnitsInv := by
  have hst := h.putSt (h.st.of_written (stWritten_stInitWith s.cfg.stDefaultDiv 0 s.st)) fun _ => rfl
  have hline := (hst.setExtiReg r.echoPin).setSensor k ht (by simp) rfl
  exact (hline.putOut (s.out ++ usInitCalls r)).respond .ok 0

theorem startRead_inv {s : State} (h : s.UnitsInv) {k : Nat} {r : Sensor} (hr : sensorAt k s = some r)
    (ha : stArmed s.st = false) : (startRead k r s).Inv := by
  obtain ⟨-, hreg, -⟩ := h.sensors.2 k r hr
  have hses := h.putSes (ses := { s.ses with state := .waitingForRisingEdge }) h.distance
  have hline := (hses.emit (.call (.extiEnableLine r.echoPin))).setExtiEn (l := r.echoPin) (b := true) fun _ => hreg
  have hcalls := (hline.emit (.call (.extiSetTriggerEdge r.echoPin .both))).emit
    (.call (.gpioSetPinValue r.trigPort r.trigPin .low))
  exact (startDelay_running hcalls (h.st.tickint_of_unarmed ha) _ (k := .usTrigHigh k)
    ⟨Option.isSome_iff_exists.mpr ⟨r, hr⟩, rfl⟩).fgCheck_inv

/-- Every effect of a command keeps the invariant. -/
theorem commandEffect_inv {i : Instr} {s t : State} (h : s.Inv) (hf : s.fault = none) (hfg : s.fg = .idle)
    (he : CommandEffect i s t) : t.Inv := by
  have hu := h.running.units
  have hses := sessionQuiet_of_idle h hf hfg
  have written {n : Fin 4} {u : Timer} (hw : TimerWritten s.timers[n] u) : (s.putTimer n u).UnitsInv :=
    hu.putTimer n (hw.slot.cb_ne_zero (hu.handles n)) fun hf => hw.noStale (hu.noStaleFlag hf n)
  cases he with
  | answered x v => exact inv_of_idle (hu.respond x v) hfg hses
  | raised r => exact (running_raise hu r).inv_of_settled (fgArm_of_fault (raise_fault_ne_none r s))
  | timerWritten u draws _ _ hw => exact inv_of_idle (((written hw).putDrawCount draws).respond .ok 0) hfg hses
  | @waitIssued sel n u target _ _ hw hcen huie =>
    refine State.Running.fgCheck_inv ⟨(written hw).putFg _, fun _ => ⟨hses, ?_⟩⟩
    rw [show ({ s.putTimer n u with fg := .gptWait n target } : State).timers[n] = u from putTimer_getElem_same s n u]
    exact ⟨hw.inited, hcen, huie⟩
  | stWritten st _ hw =>
    exact inv_of_idle ((hu.putSt (hu.st.of_written hw) fun _ => hw.inited).respond .ok 0) hfg hses
  | delayIssued ticks _ ha =>
    exact (startDelay_running hu (hu.st.tickint_of_unarmed ha) ticks (k := .respond) hses).fgCheck_inv
  | sensorInited k r _ ht => exact inv_of_idle (usInitBody_units hu k ht) hfg hses
  | readIssued k r _ hr ha => exact startRead_inv hu hr ha
  | sensorWritten k r r' _ hr hpin ht =>
    obtain ⟨htimeout, hreg, hi⟩ := hu.sensors.2 k r hr
    exact inv_of_idle ((hu.setSensor k (ht htimeout) (by simpa only [hpin] using hreg) hi).respond .ok 0) hfg hses

/-! ### The step -/

theorem exec_keeps_inv {i : Instr} {s t : State} (h : s.Inv) (he : exec i s = .next t) : t.Inv := by
  obtain ⟨-, hf⟩ := live_of_exec he
  rcases exec_next_cases he with (rfl | ⟨hfg, heff⟩) | ⟨sel, n, -, -, rfl⟩ | ⟨-, rfl⟩ | ⟨line, l, -, rfl⟩
  · exact h
  · exact commandEffect_inv h hf hfg heff
  · exact (gptCount_running h n).fgCheck_inv
  · exact (stCount_running h).fgCheck_inv
  · exact (deliverEdge_running h l).fgCheck_inv

/-- The invariant does not speak of the inputs to come. -/
theorem State.Inv.putInput {s : State} (h : s.Inv) (rest : List Presentation) : { s with input := rest }.Inv :=
  ⟨h.countWithinLoad, h.noStaleFlag, h.tickintHasSlot, h.handlesNonNull, h.sensorsConsistent,
    h.enabledLinesRegistered, h.distanceBounded, h.foregroundSettled⟩

/-- Settles O15: each instruction keeps the invariant, and so does a frame that stands for none. -/
theorem stepKeepsTheInvariant : Obligations.StepKeepsTheInvariant := by
  intro s t h hstep
  obtain ⟨⟨-, hf⟩, ⟨-, rfl⟩ | ⟨p, rest, s', -, rfl, ⟨i, -, he⟩ | ⟨-, he⟩ | ⟨-, rfl⟩⟩⟩ := step_next_cases hstep
  · exact h
  · exact exec_keeps_inv (h.putInput _) he
  · obtain ⟨-, ⟨hfg, rfl⟩ | ⟨-, rfl⟩⟩ := command_eq_next.mp he
    · have hses : sessionQuiet s.ses := sessionQuiet_of_idle h hf hfg
      exact inv_of_idle ((h.putInput _).running.units.respond .illegal 0) hfg hses
    · exact h.putInput _
  · exact h.putInput _

end Sys2Proof.Machine
end

section
/-! The statements of 10_state.md about whole steps: reset, the sticky fault, the busy foreground, the trace, the
independence of the timers, and `FgCheck()` arm by arm. -/

namespace Sys2Proof.Machine

/-! ### Reset (10_state.md R47) -/

@[simp] theorem resetWith_timer (c : Config) (n : Fin 4) : (State.resetWith c).timers[n] = Timer.reset := by
  simp [State.resetWith]

theorem resetWith_sensorAt (c : Config) (i : Nat) : sensorAt i (State.resetWith c) = none := by
  simp only [sensorAt, State.resetWith, List.getElem?_replicate]
  split <;> rfl

theorem resetWith_ext (c : Config) (l : Fin 16) :
    (State.resetWith c).extiEn[l] = false ∧ (State.resetWith c).extiReg[l] = false := by
  simp [State.resetWith]

theorem resetWith_inv (c : Config) : (State.resetWith c).Inv := by
  refine inv_of_idle ⟨⟨BitVec.le_refl 0, nofun, nofun⟩, fun _ n => ?_, fun n => ?_, ⟨?_, fun i r hr => ?_⟩,
    fun l hl => ?_, Nat.zero_le _⟩ rfl (.inl rfl)
  · rw [resetWith_timer]; nofun
  · rw [resetWith_timer]; nofun
  · exact List.length_replicate
  · rw [resetWith_sensorAt] at hr; cases hr
  · exact absurd (hl.symm.trans (resetWith_ext c l).1) (by decide)

/-- Settles O12: each field of the reset state is the value R47 gives, whatever the parameters. -/
theorem resetValues : Obligations.ResetValues := fun c =>
  ⟨rfl, rfl, rfl, fun n => resetWith_timer c n, rfl, List.length_replicate, resetWith_sensorAt c, rfl, resetWith_ext c⟩

/-- Settles O14: the reset state is idle and every clause of the invariant is about nothing that has happened yet. -/
theorem resetMeetsTheInvariant : Obligations.ResetMeetsTheInvariant :=
  ⟨resetWith_inv, resetWith_inv Config.reference⟩

/-! ### The sticky fault (10_state.md R23) -/

theorem live_of_step {s t : State} (h : step s = .next t) : s.Live := (step_next_cases h).1

/-- Settles O11: a step or an instruction that goes on started from a live block, which holds no fault. -/
theorem stickyFaultStopsTheBlock : Obligations.StickyFaultStopsTheBlock := by
  refine ⟨fun s r hf => by rw [raise_of_none hf], fun s t r hf => ?_, fun c => rfl⟩
  have stuck : ¬ s.Live := fun ⟨_, hn⟩ => nomatch hf.symm.trans hn
  exact ⟨fun h => stuck (live_of_step h), fun i h => stuck (live_of_exec h)⟩

/-! ### The busy foreground (10_state.md R21) -/

/-- What the decoder answers is a command, if it is an instruction at all. -/
def DecodesToCommand (d : Except Reject Instr) : Prop := ∀ i, d = .ok i → i.port = .command

@[simp] theorem decodesToCommand_ok {i : Instr} : DecodesToCommand (.ok i) ↔ i.port = .command :=
  ⟨fun h => h i rfl, fun h _ e => Except.ok.inj e ▸ h⟩

@[simp] theorem decodesToCommand_error (e : Reject) : DecodesToCommand (.error e) := nofun

@[simp] theorem decodesToCommand_whenZero {b : Bool} {i : Instr} :
    DecodesToCommand (whenZero b i) ↔ (b = true → i.port = .command) := by
  cases b <;> simp [whenZero]

theorem decodesToCommand_decodeH (op sel : Byte) (imm : Half) : DecodesToCommand (decodeH op sel imm) := by
  unfold decodeH
  split <;> simp [Instr.port]

theorem decodesToCommand_decodeHW (op sel : Byte) (imm : Half) (w1 : Word) :
    DecodesToCommand (decodeHW op sel imm w1) := by
  unfold decodeHW
  split <;> simp [Instr.port]

theorem decodesToCommand_decodeHWW (op sel : Byte) (imm : Half) (w1 w2 : Word) :
    DecodesToCommand (decodeHWW op sel imm w1 w2) := by
  unfold decodeHWW
  split <;> simp [Instr.port]

/-- The command port carries commands. -/
theorem decodesToCommand_decodeCommand (ws : List Word) : DecodesToCommand (decodeCommand ws) := by
  unfold decodeCommand
  split
  · exact decodesToCommand_error _
  · split
    · exact decodesToCommand_error _
    · exact decodesToCommand_decodeH _ _ _
    · exact decodesToCommand_decodeHW _ _ _ _
    · exact decodesToCommand_decodeHWW _ _ _ _ _
    all_goals exact decodesToCommand_error _

theorem exec_of_busy {i : Instr} {s : State} (hi : i.port = .command) (h : s.Live) (hb : s.fg ≠ .idle) :
    exec i s = .next s := by
  obtain ⟨f, hf⟩ := exec_command hi
  rw [hf, command_of_busy h hb]

/-- Settles O7: what the command port presents is a command, an encoding answered behind the same gate, or no frame. -/
theorem busyForegroundTakesNoCommand : Obligations.BusyForegroundTakesNoCommand := by
  intro s h hb
  refine ⟨fun i hi => exec_of_busy hi h hb, fun p rest hin hp => ?_⟩
  have hs' : ∀ input, State.Live { s with input := input } := fun _ => h
  cases hd : decodeFrame p.port p.words with
  | ok i =>
    have hi : i.port = .command := decodesToCommand_decodeCommand p.words i (by rwa [hp] at hd)
    rw [step_of_decodeFrame_ok hin hd]
    exact exec_of_busy hi (hs' _) hb
  | error e =>
    simp only [step, serve, hin, hd]
    cases e with
    | illegalOpcode | reservedField => exact command_of_busy (hs' _) hb
    | notAnEvent | incomplete => exact event_of_live (hs' _)

/-! ### The trace (10_state.md R24) -/

theorem fgArm_out {s t : State} (h : fgArm s = some t) : s.out <+: t.out := by
  obtain ⟨-, ⟨n, target, -, -, rfl⟩ | ⟨rest, k, -, -, rfl⟩ | ⟨i, -, hpoll⟩⟩ := fgArm_cases h
  · exact List.prefix_append ..
  · exact (delaySegmentDone_frame rest k s).out
  · obtain ⟨-, rfl⟩ | ⟨r, -, ⟨-, rfl⟩ | ⟨-, -, rfl⟩⟩ := hpoll
    · exact (delayFrame_raise _ s).out
    · exact List.prefix_append ..
    · exact (List.prefix_append ..).trans (List.prefix_append ..)

theorem fgCheck_out {s t : State} (h : s.out <+: t.out) : s.out <+: (fgCheck t).out :=
  fgCheck_induction (P := fun u => s.out <+: u.out) h fun _ _ hu harm => hu.trans (fgArm_out harm)

theorem gptCount_out (n : Fin 4) (s : State) : s.out <+: (gptCount n s).out := by
  obtain ⟨t, -, ⟨r, e⟩ | ⟨-, e | ⟨cb, e⟩⟩⟩ := gptCount_effect n s <;> rw [e]
  · exact (delayFrame_raise r (s.putTimer n t)).out
  · exact List.prefix_refl _
  · exact List.prefix_append ..

theorem stCount_out (s : State) : s.out <+: (stCount s).out := by
  obtain ⟨st, -, e | ⟨-, ⟨r, e⟩ | ⟨cb, e⟩⟩⟩ := stCount_effect s <;> rw [e]
  · exact List.prefix_refl _
  · exact (delayFrame_raise r (s.putSt st)).out
  · exact List.prefix_append ..

theorem deliverEdge_out (l : Fin 16) (s : State) : (deliverEdge l s).out = s.out := by
  unfold deliverEdge
  split
  · rcases edgeHandler_cases s with ⟨r, e⟩ | ⟨-, -, e⟩ | ⟨-, e⟩ | ⟨-, e⟩ <;> rw [e]
    exacts [raise_out r s, rfl, rfl]
  · rfl

/-- The state a read's delay starts from: the session, the echo line and the records are written (44_ultrasonic.md
R235). -/
theorem startRead_eq (k : Nat) (r : Sensor) (s : State) :
    ∃ t u, startRead k r s = fgCheck (startDelay t (.usTrigHigh k) u) ∧ u.timers = s.timers ∧ u.fg = s.fg ∧
      s.out <+: u.out :=
  ⟨_, _, rfl, rfl, rfl, ((List.prefix_append ..).trans (List.prefix_append ..)).trans (List.prefix_append ..)⟩

theorem commandEffect_out {i : Instr} {s t : State} (h : CommandEffect i s t) : s.out <+: t.out := by
  cases h with
  | answered | timerWritten | stWritten | sensorWritten => exact List.prefix_append ..
  | raised r => exact (delayFrame_raise r s).out
  | waitIssued => exact fgCheck_out (List.prefix_refl _)
  | delayIssued ticks => exact fgCheck_out (startDelay_frame ticks .respond s).out
  | sensorInited => exact (List.prefix_append ..).trans (List.prefix_append ..)
  | readIssued k r =>
    obtain ⟨ticks, u, e, -, -, hu⟩ := startRead_eq k r s
    rw [e]
    exact fgCheck_out (hu.trans (startDelay_frame ..).out)

theorem exec_out {i : Instr} {s t : State} (h : exec i s = .next t) : s.out <+: t.out := by
  rcases exec_next_cases h with (rfl | ⟨-, heff⟩) | ⟨sel, n, -, -, rfl⟩ | ⟨-, rfl⟩ | ⟨line, l, -, rfl⟩
  · exact List.prefix_refl _
  · exact commandEffect_out heff
  · exact fgCheck_out (gptCount_out n s)
  · exact fgCheck_out (stCount_out s)
  · exact fgCheck_out (deliverEdge_out l s ▸ List.prefix_refl _)

/-- Settles O17: an instruction only appends records, and a frame that is none appends an ILLEGAL response or
nothing. -/
theorem stepOnlyAppendsToTheTrace : Obligations.StepOnlyAppendsToTheTrace := by
  intro s t hstep
  obtain ⟨-, ⟨-, rfl⟩ | ⟨p, rest, s', -, rfl, ⟨i, -, he⟩ | ⟨-, he⟩ | ⟨-, rfl⟩⟩⟩ := step_next_cases hstep
  · exact List.prefix_refl _
  · have hout := exec_out he
    exact hout
  · obtain ⟨-, ⟨-, rfl⟩ | ⟨-, rfl⟩⟩ := command_eq_next.mp he
    · exact List.prefix_append ..
    · exact List.prefix_refl _
  · exact List.prefix_refl _

/-! ### The timers are independent (10_state.md R25) -/

/-- `t` has the other timers of `s`, and its ST and US units. -/
structure TimerFrame (n : Fin 4) (s t : State) : Prop where
  timers : ∀ m : Fin 4, m ≠ n → t.timers[m] = s.timers[m]
  st : t.st = s.st
  sensors : t.sensors = s.sensors
  ses : t.ses = s.ses
  extiEn : t.extiEn = s.extiEn
  extiReg : t.extiReg = s.extiReg

theorem TimerFrame.trans {n : Fin 4} {s t u : State} (hst : TimerFrame n s t) (htu : TimerFrame n t u) :
    TimerFrame n s u :=
  ⟨fun m hm => (htu.timers m hm).trans (hst.timers m hm), htu.st.trans hst.st, htu.sensors.trans hst.sensors,
    htu.ses.trans hst.ses, htu.extiEn.trans hst.extiEn, htu.extiReg.trans hst.extiReg⟩

theorem timerFrame_refl (n : Fin 4) (s : State) : TimerFrame n s s := ⟨fun _ _ => rfl, rfl, rfl, rfl, rfl, rfl⟩

theorem timerFrame_raise (n : Fin 4) (r : Reason) (s : State) : TimerFrame n s (raise r s) :=
  ⟨fun _ _ => by rw [raise_timers], by simp, by simp, by simp, by simp, by simp⟩

theorem timerFrame_putTimer (n : Fin 4) (s : State) (t : Timer) : TimerFrame n s (s.putTimer n t) :=
  ⟨fun _ hm => putTimer_getElem_of_ne hm s t, rfl, rfl, rfl, rfl, rfl⟩

theorem gptCount_timerFrame (n : Fin 4) (s : State) : TimerFrame n s (gptCount n s) := by
  obtain ⟨t, -, ⟨r, e⟩ | ⟨-, e | ⟨cb, e⟩⟩⟩ := gptCount_effect n s <;> rw [e]
  · exact (timerFrame_putTimer n s t).trans (timerFrame_raise n r _)
  · exact timerFrame_putTimer n s t
  · exact (timerFrame_putTimer n s t).trans ⟨fun _ _ => rfl, rfl, rfl, rfl, rfl, rfl⟩

theorem gptCount_fg (n : Fin 4) (s : State) : (gptCount n s).fg = s.fg := by
  obtain ⟨t, -, ⟨r, e⟩ | ⟨-, e | ⟨cb, e⟩⟩⟩ := gptCount_effect n s <;> rw [e]
  exacts [raise_fg r _, rfl, rfl]

/-- The check of a busy-wait on timer `n` touches no other timer and no other unit. -/
theorem fgCheck_timerFrame_of_wait {n : Fin 4} {target : Half} {s : State} (hfg : s.fg = .gptWait n target) :
    TimerFrame n s (fgCheck s) := by
  cases hf : s.fault with
  | some r => rw [fgCheck_of_fault (by simp [hf])]; exact timerFrame_refl n s
  | none =>
    rw [fgCheck_gptWait hf hfg]
    split
    · exact (timerFrame_putTimer n s (writeArr 0 { s.timers[n] with cen := false, cnt := 0 })).trans
        ⟨fun _ _ => rfl, rfl, rfl, rfl, rfl, rfl⟩
    · exact timerFrame_refl n s

/-- A foreground that waits on anything but timer `n` stays as settled as it was. -/
theorem foregroundOk_of_timerFrame {n : Fin 4} {s t : State} {fg : Foreground} (h : ForegroundOk s fg)
    (hframe : TimerFrame n s t) (hn : ∀ target, fg ≠ .gptWait n target) : ForegroundOk t fg := by
  cases fg with
  | idle => simpa only [ForegroundOk, hframe.ses] using h
  | gptWait m target =>
    have hmn : m ≠ n := fun e => hn target (e ▸ rfl)
    simpa only [ForegroundOk, hframe.ses, hframe.timers m hmn] using h
  | stDelay rest k => simpa only [ForegroundOk, hframe.st, hframe.ses, sensorAt_congr hframe.sensors] using h
  | usPoll i => simpa only [ForegroundOk, hframe.st, hframe.ses, sensorAt_congr hframe.sensors] using h

theorem fgCheck_gptCount_timerFrame {s : State} (h : s.ForegroundSettled) (hf : s.fault = none) (n : Fin 4) :
    TimerFrame n s (fgCheck (gptCount n s)) := by
  have hframe := gptCount_timerFrame n s
  by_cases hwait : ∃ target, s.fg = .gptWait n target
  · obtain ⟨target, hfg⟩ := hwait
    exact hframe.trans (fgCheck_timerFrame_of_wait ((gptCount_fg n s).trans hfg))
  · have hsettled : (gptCount n s).ForegroundSettled := fun _ => by
      rw [gptCount_fg]
      exact foregroundOk_of_timerFrame (h hf) hframe fun target hfg => hwait ⟨target, hfg⟩
    rw [fgCheck_of_settled (fgArm_of_foregroundSettled hsettled)]
    exact hframe

/-- No busy-wait is at its target. -/
def NoWaitOver (s : State) : Prop := ∀ n target, s.fg = .gptWait n target → s.timers[n].cnt ≠ target

theorem noWaitOver_of_settled {s : State} (h : s.ForegroundSettled) (hf : s.fault = none) : NoWaitOver s := by
  intro n target hfg
  have hok := h hf
  rw [hfg] at hok
  obtain ⟨-, -, -, -, hne⟩ := hok
  exact hne

/-- The check writes a timer only where a busy-wait on it is over. -/
theorem fgCheck_timers {s t : State} (h : NoWaitOver s) (ht : t.timers = s.timers)
    (hfg : ∀ n target, t.fg = .gptWait n target → s.fg = .gptWait n target) : (fgCheck t).timers = s.timers := by
  refine (fgCheck_induction (P := fun u => u.timers = s.timers ∧
    ∀ n target, u.fg = .gptWait n target → s.fg = .gptWait n target) ⟨ht, hfg⟩ fun u v ⟨hu, hwait⟩ harm => ?_).1
  obtain ⟨-, ⟨n, target, hfg, hcnt, -⟩ | ⟨rest, k, -, -, rfl⟩ | ⟨i, -, hpoll⟩⟩ := fgArm_cases harm
  · exact absurd (hu ▸ hcnt) (h n target (hwait n target hfg))
  · have hframe := delaySegmentDone_frame rest k u
    exact ⟨hframe.timers.trans hu, fun n target e => hwait n target (hframe.waits n target e)⟩
  · obtain ⟨-, rfl⟩ | ⟨r, -, ⟨-, rfl⟩ | ⟨-, -, rfl⟩⟩ := hpoll
    · exact ⟨(raise_timers _ u).trans hu, fun n target e => hwait n target (by rwa [raise_fg] at e)⟩
    · exact ⟨hu, nofun⟩
    · exact ⟨hu, nofun⟩

theorem stCount_timers (s : State) : (stCount s).timers = s.timers ∧ (stCount s).fg = s.fg := by
  obtain ⟨st, -, e | ⟨-, ⟨r, e⟩ | ⟨cb, e⟩⟩⟩ := stCount_effect s <;> rw [e]
  · exact ⟨rfl, rfl⟩
  · exact ⟨raise_timers r _, raise_fg r _⟩
  · exact ⟨rfl, rfl⟩

theorem deliverEdge_timers (l : Fin 16) (s : State) :
    (deliverEdge l s).timers = s.timers ∧ (deliverEdge l s).fg = s.fg := by
  unfold deliverEdge
  split
  · rcases edgeHandler_cases s with ⟨r, e⟩ | ⟨-, -, e⟩ | ⟨-, e⟩ | ⟨-, e⟩ <;> rw [e]
    exacts [⟨raise_timers r s, raise_fg r s⟩, ⟨rfl, rfl⟩, ⟨rfl, rfl⟩, ⟨rfl, rfl⟩]
  · exact ⟨rfl, rfl⟩

/-- The part of the state an instruction belongs to: the timer a GPT instruction names, or everything but the timers;
an instruction that only answers or faults belongs to neither. -/
def WithinItsUnit (i : Instr) (s t : State) : Prop :=
  (t.timers = s.timers ∧ TimerFrame 0 s t) ∨
  (gptTarget i = none ∧ t.timers = s.timers) ∨
  ∃ sel n, gptTarget i = some sel ∧ sel.toNat = Fin.val n ∧ TimerFrame n s t

theorem commandEffect_withinItsUnit {i : Instr} {s t : State} (hfg : s.fg = .idle) (h : CommandEffect i s t) :
    WithinItsUnit i s t := by
  have hwait : NoWaitOver s := fun n target e => nomatch hfg.symm.trans e
  cases h with
  | answered => exact .inl ⟨rfl, fun _ _ => rfl, rfl, rfl, rfl, rfl, rfl⟩
  | raised r => exact .inl ⟨raise_timers r s, timerFrame_raise 0 r s⟩
  | @timerWritten sel n u draws hi hn =>
    exact .inr (.inr ⟨sel, n, hi, hn, (timerFrame_putTimer n s u).trans ⟨fun _ _ => rfl, rfl, rfl, rfl, rfl, rfl⟩⟩)
  | @waitIssued sel n u target hi hn =>
    have hframe : TimerFrame n s { s.putTimer n u with fg := .gptWait n target } :=
      (timerFrame_putTimer n s u).trans ⟨fun _ _ => rfl, rfl, rfl, rfl, rfl, rfl⟩
    exact .inr (.inr ⟨sel, n, hi, hn, hframe.trans (fgCheck_timerFrame_of_wait rfl)⟩)
  | stWritten st hi | sensorInited k r hi | sensorWritten k r r' hi => exact .inr (.inl ⟨hi, rfl⟩)
  | delayIssued ticks hi =>
    have hframe := startDelay_frame ticks .respond s
    exact .inr (.inl ⟨hi, fgCheck_timers hwait hframe.timers hframe.waits⟩)
  | readIssued k r hi =>
    obtain ⟨ticks, u, e, hu, hufg, -⟩ := startRead_eq k r s
    have hframe := startDelay_frame ticks (.usTrigHigh k) u
    rw [e]
    exact .inr (.inl ⟨hi, fgCheck_timers hwait (hframe.timers.trans hu) fun n target h =>
      hufg ▸ hframe.waits n target h⟩)

theorem exec_withinItsUnit {i : Instr} {s t : State} (hs : s.ForegroundSettled) (h : exec i s = .next t) :
    WithinItsUnit i s t := by
  obtain ⟨-, hf⟩ := live_of_exec h
  have hwait := noWaitOver_of_settled hs hf
  rcases exec_next_cases h with (rfl | ⟨hfg, heff⟩) | ⟨sel, n, rfl, hn, rfl⟩ | ⟨rfl, rfl⟩ | ⟨line, l, rfl, rfl⟩
  · exact .inl ⟨rfl, timerFrame_refl 0 t⟩
  · exact commandEffect_withinItsUnit hfg heff
  · exact .inr (.inr ⟨sel, n, rfl, hn, fgCheck_gptCount_timerFrame hs hf n⟩)
  · obtain ⟨ht, hfg⟩ := stCount_timers s
    exact .inr (.inl ⟨rfl, fgCheck_timers hwait ht fun _ _ e => hfg ▸ e⟩)
  · obtain ⟨ht, hfg⟩ := deliverEdge_timers l s
    exact .inr (.inl ⟨rfl, fgCheck_timers hwait ht fun _ _ e => hfg ▸ e⟩)

/-- Settles O18: every effect stays within the unit of its instruction. -/
theorem timersAreIndependent : Obligations.TimersAreIndependent := by
  intro i s t hs he
  rcases exec_withinItsUnit hs he with ⟨ht, h⟩ | ⟨hi, ht⟩ | ⟨sel, n, hi, hn, h⟩
  · exact ⟨fun m _ => by rw [ht], fun _ _ => ⟨h.st, h.sensors, h.ses, h.extiEn, h.extiReg⟩⟩
  · exact ⟨fun m _ => by rw [ht], fun sel hsel => nomatch hi.symm.trans hsel⟩
  · refine ⟨fun m hm => h.timers m fun e => ?_, fun _ _ => ⟨h.st, h.sensors, h.ses, h.extiEn, h.extiReg⟩⟩
    subst e
    exact hm sel hi hn

/-! ### `FgCheck()`, arm by arm (10_state.md R22) -/

/-- A segment that ends, where what it leaves is settled. -/
theorem fgCheck_delayDone {s : State} {rest : List Ticks} {k : Continuation} (hf : s.fault = none)
    (hfg : s.fg = .stDelay rest k) (hflag : s.st.countflag = true) (hdone : fgArm (delaySegmentDone rest k s) = none) :
    fgCheck s = delaySegmentDone rest k s :=
  fgCheck_of_arm (by rw [fgArm_stDelay hf hfg, if_pos hflag]) hdone

theorem startDelay_of_some {t : Nat} {k : Continuation} {s : State} {n : Ticks} {rest : List Ticks}
    (h : segments t = some (n :: rest)) :
    startDelay t k s =
      { modifySt (fun st => { stProgram n st with enable := true }) s with fg := .stDelay rest k } := by
  unfold startDelay; rw [h]

theorem startDelay_of_none {t : Nat} {k : Continuation} {s : State} (h : segments t = none) :
    startDelay t k s = raise .delayRange s := by
  unfold startDelay; rw [h]

/-- Where the last segment ends SysTick is stopped and reset, and the foreground left (43_systick.md R204). -/
def delayStopped (s : State) : State :=
  { s.putSt { s.st with enable := false, load := 0, val := 0, countflag := false } with fg := .idle }

theorem delaySegmentDone_usTrigHigh (i : Nat) (s : State) :
    delaySegmentDone [] (.usTrigHigh i) s = trigHighPhase i (delayStopped s) := rfl

theorem delaySegmentDone_usTrigLow (i : Nat) (s : State) :
    delaySegmentDone [] (.usTrigLow i) s = trigLowPhase i (delayStopped s) := rfl

theorem fgCheck_usTrigHigh {s : State} {i : Nat} {r : Sensor} (hf : s.fault = none)
    (hfg : s.fg = .stDelay [] (.usTrigHigh i)) (hflag : s.st.countflag = true) (hr : sensorAt i s = some r) :
    fgCheck s = startDelay (10 * ticksPerUs s.cfg s.st.clkDiv) (.usTrigLow i)
      (emitCall (.gpioSetPinValue r.trigPort r.trigPin .high) (delayStopped s)) := by
  have hdone : delaySegmentDone [] (.usTrigHigh i) s = startDelay (10 * ticksPerUs s.cfg s.st.clkDiv) (.usTrigLow i)
      (emitCall (.gpioSetPinValue r.trigPort r.trigPin .high) (delayStopped s)) := by
    have hr' : sensorAt i (delayStopped s) = some r := hr
    rw [delaySegmentDone_usTrigHigh, trigHighPhase, hr']
    rfl
  rw [← hdone, fgCheck_delayDone hf hfg hflag (hdone ▸ fgArm_startDelay _ _ _)]

/-- Where the low trigger phase leaves the read of sensor `i` (44_ultrasonic.md R237). -/
def pollStarted (i : Nat) (r : Sensor) (s : State) : State :=
  { modifySt stStartElapsed (emitCall (.gpioSetPinValue r.trigPort r.trigPin .low) (delayStopped s)) with
    fg := .usPoll i }

/-- A poll that starts keeps polling: no time has elapsed yet. -/
theorem fgArm_pollStarted {s : State} {i : Nat} {r : Sensor} (hf : s.fault = none) (hr : sensorAt i s = some r)
    (hses : s.ses.state ≠ .done) : fgArm (pollStarted i r s) = none := by
  have hf' : (pollStarted i r s).fault = none := hf
  have hst : (pollStarted i r s).st = stStartElapsed (delayStopped s).st := rfl
  rw [fgArm_usPoll hf' rfl]
  refine pollCheck_polling hr hses ?_
  rw [hst, elapsed_stStartElapsed]
  exact Nat.zero_le _

theorem fgCheck_usTrigLow {s : State} {i : Nat} {r : Sensor} (hf : s.fault = none)
    (hfg : s.fg = .stDelay [] (.usTrigLow i)) (hflag : s.st.countflag = true) (hr : sensorAt i s = some r)
    (hses : s.ses.state ≠ .done) : fgCheck s = pollStarted i r s := by
  have hdone : delaySegmentDone [] (.usTrigLow i) s = pollStarted i r s := by
    have hr' : sensorAt i (delayStopped s) = some r := hr
    rw [delaySegmentDone_usTrigLow, trigLowPhase, hr']
    rfl
  rw [← hdone]
  exact fgCheck_delayDone hf hfg hflag (hdone ▸ fgArm_pollStarted hf hr hses)

/-- Settles O21: one arm of `FgCheck()` each, followed by what makes it settle. -/
theorem fgCheckArms : Obligations.FgCheckArms := by
  intro s hf
  refine ⟨fgCheck_of_idle, fun n target hfg => ?wait, fun rest k hfg => ?delay, fun i r hfg hr => ?poll⟩
  case wait =>
    rw [fgCheck_gptWait hf hfg]
    exact ⟨fun hne => if_neg hne, fun heq => if_pos heq⟩
  case delay =>
    refine ⟨fun hflag => ?running, fun hflag n rest' hrest => ?nextSegment, fun hflag hrest hk => ?respond,
      fun i r n rest' hflag hrest hk hr hseg => ?trigHigh, fun i r hflag hrest hk hr hseg => ?delayRange,
      fun i r hflag hrest hk hr hses => ?trigLow⟩
    case running => exact fgCheck_of_settled (by rw [fgArm_stDelay hf hfg, hflag]; rfl)
    case nextSegment =>
      subst hrest
      exact fgCheck_delayDone hf hfg hflag (fgArm_stDelay hf rfl)
    all_goals subst hrest hk
    case respond => exact fgCheck_delayDone hf hfg hflag (fgArm_of_idle rfl)
    case trigHigh =>
      rw [fgCheck_usTrigHigh hf hfg hflag hr, startDelay_of_some hseg]
      rfl
    case delayRange =>
      rw [fgCheck_usTrigHigh hf hfg hflag hr, startDelay_of_none hseg]
      exact raise_of_none hf
    case trigLow => exact fgCheck_usTrigLow hf hfg hflag hr hses
  case poll =>
    have harm := fgArm_usPoll hf hfg
    refine ⟨fun hd => ?done, fun hd hle => ?polling, fun hd hlt => ?timeout⟩
    case done => exact fgCheck_of_arm (harm.trans (pollCheck_done hr hd)) (fgArm_of_idle rfl)
    case polling => exact fgCheck_of_settled (harm.trans (pollCheck_polling hr hd hle))
    case timeout => exact fgCheck_of_arm (harm.trans (pollCheck_timeout hr hd hlt)) (fgArm_of_idle rfl)

end Sys2Proof.Machine
end

section
/-! The statements of 20_memory.md: a short frame makes no step of the block (R63), and frames as bytes (R62). -/

namespace Sys2Proof

/-! ### A short frame (R63) -/

theorem frameLength_of_formatOf {w0 : Word} {f : Format} (hf : formatOf (opField w0) = some f) (ws : List Word) :
    frameLength .command (w0 :: ws) = formatWords f := by
  simp [frameLength, hf]

/-- Format H is never short: its one word is the header the format is read from. -/
theorem decodeCommand_of_short {w0 : Word} {ws : List Word} {f : Format} (hf : formatOf (opField w0) = some f)
    (hshort : (w0 :: ws).length < formatWords f) : decodeCommand (w0 :: ws) = .error .incomplete := by
  cases f with
  | h => simp [formatWords] at hshort
  | hw =>
    match ws, hshort with
    | [], _ => simp [decodeCommand, hf]
  | hww =>
    match ws, hshort with
    | [], _ => simp [decodeCommand, hf]
    | [_], _ => simp [decodeCommand, hf]

/-! ### Frames as bytes (R62) -/

/-- The bytes of a word are its digits to the base 256, lowest first. -/
theorem toNat_eq_bytes (w : Word) :
    w.toNat = (w.extractLsb' 0 8).toNat + 256 * (w.extractLsb' 8 8).toNat + 65536 * (w.extractLsb' 16 8).toNat +
      16777216 * (w.extractLsb' 24 8).toNat := by
  have := w.isLt
  simp only [BitVec.extractLsb'_toNat, Nat.shiftRight_eq_div_pow]
  omega

/-- The bytes of a word, most significant first, put together are the word. -/
theorem append_bytes (w : Word) :
    (w.extractLsb' 24 8 ++ w.extractLsb' 16 8 ++ w.extractLsb' 8 8 ++ w.extractLsb' 0 8 : Word) = w := by
  apply BitVec.eq_of_toNat_eq
  have := toNat_eq_bytes w
  simp only [toNat_append_eq_add]
  omega

theorem frameBytes_cons (w : Word) (ws : List Word) : frameBytes (w :: ws) = wordBytes w ++ frameBytes ws :=
  List.flatMap_cons

theorem wordsOfBytes_wordBytes_append (w : Word) (bs : List Byte) :
    wordsOfBytes (wordBytes w ++ bs) = w :: wordsOfBytes bs :=
  congrArg (· :: wordsOfBytes bs) (append_bytes w)

theorem wordsOfBytes_frameBytes (ws : List Word) : wordsOfBytes (frameBytes ws) = ws := by
  induction ws with
  | nil => rfl
  | cons w ws ih => rw [frameBytes_cons, wordsOfBytes_wordBytes_append, ih]

/-- Settles O9: a word's bytes are its digits, and each word read back from the front leaves the bytes of the rest. -/
theorem frameBytesAreLittleEndian : Obligations.FrameBytesAreLittleEndian :=
  ⟨fun w => ⟨_, _, _, _, rfl, toNat_eq_bytes w⟩, rfl, frameBytes_cons, wordsOfBytes_frameBytes⟩

end Sys2Proof

namespace Sys2Proof.Machine

/-! ### The step on a short frame (R63; log 4) -/

/-- A presentation no longer than the frame it begins leaves nothing behind on its port. -/
theorem remainingInput_of_length_le {p : Presentation} (h : p.words.length ≤ frameLength p.port p.words)
    (rest : List Presentation) : remainingInput p rest = rest := by
  simp [remainingInput, List.drop_eq_nil_of_le h]

theorem step_of_incomplete {s : State} {p : Presentation} {rest : List Presentation} (h : s.Live)
    (hin : s.input = p :: rest) (hd : decodeFrame p.port p.words = .error .incomplete) :
    step s = .next { s with input := remainingInput p rest } := by
  simp only [step, serve, hin, hd]
  exact event_of_live h

/-- Settles O8: the decoder finds no whole frame, and the length its format asks for takes all the words there are. -/
theorem shortFrameMakesNoChange : Obligations.ShortFrameMakesNoChange := by
  intro s w0 ws f rest hlive hf hshort hin
  have hlen : (w0 :: ws).length ≤ frameLength .command (w0 :: ws) := by
    rw [frameLength_of_formatOf hf]
    exact hshort.le
  rw [step_of_incomplete hlive hin (decodeCommand_of_short hf hshort), remainingInput_of_length_le hlen]

end Sys2Proof.Machine
end

section
/-! The statements of 30_encoding.md: encoder and decoder are inverse to each other (R80 to R93), frames that stand for
no instruction (R90, R93), and who emits CALLBACK records (R97). -/

namespace Sys2Proof

/-! ### Building a packed operand from its fields (R84 to R87) -/

/-- The bits from `start` up are the quotient. -/
theorem extractLsb'_high_toNat {w start len : Nat} (x : BitVec w) (h : w = start + len) :
    (x.extractLsb' start len).toNat = x.toNat / 2 ^ start := by
  rw [BitVec.extractLsb'_toNat, Nat.shiftRight_eq_div_pow, Nat.mod_eq_of_lt]
  exact Nat.div_lt_of_lt_mul (by rw [← pow_add, ← h]; exact x.isLt)

theorem extractLsb'_high_eq_zero {w start len : Nat} {x : BitVec w} (h : w = start + len) :
    x.extractLsb' start len = 0 ↔ x.toNat / 2 ^ start = 0 := by
  rw [← extractLsb'_high_toNat x h, BitVec.toNat_eq]
  rfl

/-- The duty-cycle operand is the two bytes it is read as. -/
theorem dutyImm_of_fields (imm : Half) : (imm.extractLsb' 8 8 ++ imm.extractLsb' 0 8 : Half) = imm := by
  apply BitVec.eq_of_toNat_eq
  have := imm.isLt
  simp only [toNat_append_eq_add, BitVec.extractLsb'_toNat, Nat.shiftRight_eq_div_pow]
  omega

theorem gptConfigWord_of_fields {w1 : Word} (h : w1.extractLsb' 8 24 = 0) :
    gptConfigWord (w1.extractLsb' 0 2) (w1.extractLsb' 2 2) w1[4] w1[5] (w1.extractLsb' 6 2) = w1 := by
  apply BitVec.eq_of_toNat_eq
  have hbit (k : Nat) (hk : k < 32) : w1[k].toNat = w1.toNat / 2 ^ k % 2 := by
    rw [BitVec.getElem_eq_testBit_toNat, Nat.toNat_testBit]
  rw [extractLsb'_high_eq_zero rfl] at h
  simp only [gptConfigWord_toNat, hbit, BitVec.extractLsb'_toNat, Nat.shiftRight_eq_div_pow]
  omega

theorem pwmOperandWord_of_fields {w1 : Word} (h : w1.extractLsb' 16 16 = 0) :
    pwmOperandWord (w1.extractLsb' 0 8) (w1.extractLsb' 8 8) = w1 := by
  apply BitVec.eq_of_toNat_eq
  rw [extractLsb'_high_eq_zero rfl] at h
  simp only [pwmOperandWord_toNat, BitVec.extractLsb'_toNat, Nat.shiftRight_eq_div_pow]
  omega

theorem pinsWord_of_fields {w1 : Word} (h : w1.extractLsb' 16 16 = 0) :
    pinsWord (w1.extractLsb' 0 4) (w1.extractLsb' 4 4) (w1.extractLsb' 8 4) (w1.extractLsb' 12 4) = w1 := by
  apply BitVec.eq_of_toNat_eq
  rw [extractLsb'_high_eq_zero rfl] at h
  simp only [pinsWord_toNat, BitVec.extractLsb'_toNat, Nat.shiftRight_eq_div_pow]
  omega

/-! ### What the decoder answers, by format -/

/-- The fields of a whole frame, read as their format's table of R89 says. -/
def decodeFields (f : Format) (op sel : Byte) (imm : Half) (w1 w2 : Word) : Except Reject Instr :=
  match f with
  | .h => decodeH op sel imm
  | .hw => decodeHW op sel imm w1
  | .hww => decodeHWW op sel imm w1 w2

/-- The first words of a port's `w0`, `w1`, `w2`, as many as the format has (R81). -/
def formatFrame (f : Format) (w0 w1 w2 : Word) : List Word := [w0, w1, w2].take (formatWords f)

/-- A frame with all its words is decoded by its fields; a word the format does not have is not looked at. -/
theorem decodeCommand_of_whole {w0 : Word} {ws : List Word} {f : Format} (hf : formatOf (opField w0) = some f)
    (hlen : formatWords f ≤ (w0 :: ws).length) :
    decodeCommand (w0 :: ws) =
      decodeFields f (opField w0) (selField w0) (immField w0) (ws.headD 0) (ws.tail.headD 0) := by
  match f, ws, hlen with
  | .h, ws, _ => simp [decodeCommand, hf, decodeFields]
  | .hw, w1 :: ws, _ => simp [decodeCommand, hf, decodeFields]
  | .hww, w1 :: w2 :: ws, _ => simp [decodeCommand, hf, decodeFields]

theorem take_formatWords {w0 : Word} {ws : List Word} {f : Format} (hlen : formatWords f ≤ (w0 :: ws).length) :
    (w0 :: ws).take (formatWords f) = formatFrame f w0 (ws.headD 0) (ws.tail.headD 0) := by
  match f, ws, hlen with
  | .h, ws, _ => rfl
  | .hw, w1 :: ws, _ => rfl
  | .hww, w1 :: w2 :: ws, _ => rfl

/-- Only a whole frame with an opcode of the map is accepted (R91 (1), R63). -/
theorem whole_of_decodeCommand_ok {ws : List Word} {i : Instr} (h : decodeCommand ws = .ok i) :
    ∃ w0 ws' f, ws = w0 :: ws' ∧ formatOf (opField w0) = some f ∧ formatWords f ≤ (w0 :: ws').length := by
  cases ws with
  | nil => cases h
  | cons w0 ws =>
    cases hf : formatOf (opField w0) with
    | none => simp [decodeCommand, hf] at h
    | some f =>
      refine ⟨w0, ws, f, rfl, hf, ?_⟩
      by_contra hshort
      rw [decodeCommand_of_short hf (Nat.not_le.mp hshort)] at h
      cases h

/-! ### An accepted frame is its encoding (R80 to R93) -/

/-- What the decoder answers has the frame `ws`, if it is an instruction at all. -/
def DecodesToFrame (ws : List Word) (d : Except Reject Instr) : Prop := ∀ i, d = .ok i → encode i = ws

@[simp] theorem decodesToFrame_ok {ws : List Word} {i : Instr} : DecodesToFrame ws (.ok i) ↔ encode i = ws :=
  ⟨fun h => h i rfl, fun h _ e => Except.ok.inj e ▸ h⟩

@[simp] theorem decodesToFrame_error {ws : List Word} (e : Reject) : DecodesToFrame ws (.error e) := nofun

@[simp] theorem decodesToFrame_whenZero {ws : List Word} {b : Bool} {i : Instr} :
    DecodesToFrame ws (whenZero b i) ↔ (b = true → encode i = ws) := by
  cases b <;> simp [whenZero]

/-- In each row the encoder puts back the fields that were read, and a reserved field was checked to be the zero it
writes. -/
theorem decodesToFrame_decodeH (op sel : Byte) (imm : Half) :
    DecodesToFrame [headerWord op sel imm] (decodeH op sel imm) := by
  unfold decodeH
  split <;> simp +contextual [encode, Instr.op, dutyImm_of_fields]

theorem decodesToFrame_decodeHW (op sel : Byte) (imm : Half) (w1 : Word) :
    DecodesToFrame [headerWord op sel imm, w1] (decodeHW op sel imm w1) := by
  unfold decodeHW
  split <;> simp +contextual [encode, Instr.op, gptConfigWord_of_fields, pinsWord_of_fields]

theorem decodesToFrame_decodeHWW (op sel : Byte) (imm : Half) (w1 w2 : Word) :
    DecodesToFrame [headerWord op sel imm, w1, w2] (decodeHWW op sel imm w1 w2) := by
  unfold decodeHWW
  split <;> simp +contextual [encode, Instr.op, pwmOperandWord_of_fields]

theorem decodesToFrame_decodeFields (f : Format) (op sel : Byte) (imm : Half) (w1 w2 : Word) :
    DecodesToFrame (formatFrame f (headerWord op sel imm) w1 w2) (decodeFields f op sel imm w1 w2) := by
  cases f with
  | h => exact decodesToFrame_decodeH op sel imm
  | hw => exact decodesToFrame_decodeHW op sel imm w1
  | hww => exact decodesToFrame_decodeHWW op sel imm w1 w2

theorem take_of_decodeCommand_ok {ws : List Word} {i : Instr} (h : decodeCommand ws = .ok i) :
    ws.take (frameLength .command ws) = encode i := by
  obtain ⟨w0, ws, f, rfl, hf, hlen⟩ := whole_of_decodeCommand_ok h
  rw [decodeCommand_of_whole hf hlen] at h
  rw [frameLength_of_formatOf hf, take_formatWords hlen, decodesToFrame_decodeFields _ _ _ _ _ _ i h,
    headerWord_of_fields]

/-- Every command is well formed: an operand out of its range is answered, not undecodable (R91). -/
theorem wellFormed_of_command {i : Instr} (h : i.port = .command) : i.wellFormed = true := by
  cases i with
  | gptTick | extiEdge => cases h
  | _ => rfl

open Machine in
/-- A row of R90 is the frame of the event it names. -/
theorem exists_event_of_eventWord {w : Word} (h : eventWord w) :
    ∃ i : Instr, i.wellFormed = true ∧ i.port = .event ∧ encode i = [w] := by
  obtain ⟨himm, ⟨hop, hsel⟩ | ⟨hop, hsel⟩ | ⟨hop, hsel⟩⟩ := h <;>
    rw [← headerWord_of_fields w, hop, himm]
  · exact ⟨.gptTick (selField w), decide_eq_true (Nat.lt_succ_of_le hsel), rfl, rfl⟩
  · exact ⟨.stTick, rfl, rfl, by rw [hsel]; rfl⟩
  · exact ⟨.extiEdge (selField w), decide_eq_true (Nat.lt_succ_of_le hsel), rfl, rfl⟩

open Machine in
/-- A word in none of the rows of R90 is rejected. -/
theorem decodeEvent_of_not_eventWord {w : Word} (h : ¬ eventWord w) (ws : List Word) :
    decodeEvent (w :: ws) = .error .notAnEvent := by
  simp only [decodeEvent]
  split
  case h_1 hop => exact if_neg fun ⟨hsel, himm⟩ => h ⟨himm, .inl ⟨hop, Nat.le_of_lt_succ hsel⟩⟩
  case h_2 hop => exact if_neg fun ⟨hsel, himm⟩ => h ⟨himm, .inr (.inl ⟨hop, hsel⟩)⟩
  case h_3 hop => exact if_neg fun ⟨hsel, himm⟩ => h ⟨himm, .inr (.inr ⟨hop, Nat.le_of_lt_succ hsel⟩)⟩
  case h_4 => rfl

/-- An accepted event word is the whole frame of a well-formed event: the encoder's frame of its row decodes to one
instruction only. -/
theorem event_of_decodeEvent_ok {ws : List Word} {i : Instr} (h : decodeEvent ws = .ok i) :
    i.wellFormed = true ∧ i.port = .event ∧ ws.take (frameLength .event ws) = encode i := by
  cases ws with
  | nil => cases h
  | cons w ws =>
    by_cases hw : Machine.eventWord w
    · obtain ⟨j, hwf, hport, henc⟩ := exists_event_of_eventWord hw
      have hj : decodeEvent (w :: ws) = .ok j := by
        have := decodeFrame_encode_append j ws hwf
        rwa [hport, henc] at this
      obtain rfl : j = i := Except.ok.inj (hj.symm.trans h)
      exact ⟨hwf, hport, henc.symm⟩
    · rw [decodeEvent_of_not_eventWord hw] at h
      cases h

/-- Settles O1: `decodeFrame_encode_append` and `frameLength_encode_append`, the decoder and the length on an
instruction's own frame. -/
theorem decodeEncodeRoundTrip : Obligations.DecodeEncodeRoundTrip := fun i rest h =>
  ⟨decodeFrame_encode_append i rest h, frameLength_encode_append i rest⟩

/-- Settles O2: on the command port every row puts the fields it read back; on the event port the rows of R90 are the
events' frames. -/
theorem acceptedFrameIsItsEncoding : Obligations.AcceptedFrameIsItsEncoding := by
  intro p ws i h
  cases p with
  | command =>
    have hport := Machine.decodesToCommand_decodeCommand ws i h
    exact ⟨wellFormed_of_command hport, hport, take_of_decodeCommand_ok h⟩
  | event => exact event_of_decodeEvent_ok h

/-! ### Undefined and reserved encodings (R93) -/

open Machine in
/-- The ranges R93 lists as unassigned hold no opcode of the map. -/
theorem formatOf_of_undefinedOp {op : Byte} (h : undefinedOp op) : formatOf op = none := by
  unfold formatOf
  split
  case h_33 => rfl
  all_goals exact absurd h (by decide)

/-- The opcodes from ST_SET_RELOAD on, whose rows use neither `sel` nor `imm16` (R89). -/
theorem stOpcode_of_range {op : Byte} (hlo : 0x42 ≤ op.toNat) (hhi : op.toNat ≤ 0x4B) :
    op ∈ [0x42#8, 0x43#8, 0x44#8, 0x45#8, 0x46#8, 0x47#8, 0x48#8, 0x49#8, 0x4A#8, 0x4B#8] := by
  have hop : op = BitVec.ofNat 8 op.toNat := by simp
  interval_cases op.toNat <;> simp [hop]

theorem reservedField_of_whenZero {d : Except Reject Instr} {b : Bool} (hrow : ∃ i, d = whenZero b i)
    (hb : b = false) : d = .error .reservedField := by
  obtain ⟨i, rfl⟩ := hrow
  simp [whenZero, hb]

open Machine in
/-- Each row of R89 that marks a field reserved checks that it is zero. -/
theorem decodeFields_of_reservedNonZero {f : Format} {op sel : Byte} {imm : Half} {w1 : Word}
    (hf : formatOf op = some f) (hr : reservedNonZero op sel imm w1) (w2 : Word) :
    decodeFields f op sel imm w1 w2 = .error .reservedField := by
  obtain ⟨hop, himm⟩ | ⟨hop, hsel⟩ | ⟨hlo, hhi, hfield⟩ | ⟨rfl, hw1⟩ | ⟨hop, hw1⟩ := hr
  · refine reservedField_of_whenZero (b := imm == 0) ?_ (beq_eq_false_iff_ne.mpr himm)
    fin_cases hop <;> cases hf <;> exact ⟨_, rfl⟩
  · refine reservedField_of_whenZero (b := sel == 0) ?_ (beq_eq_false_iff_ne.mpr hsel)
    fin_cases hop <;> cases hf <;> exact ⟨_, rfl⟩
  · refine reservedField_of_whenZero (b := sel == 0 && imm == 0) ?_ ?_
    · have hop := stOpcode_of_range hlo hhi
      fin_cases hop <;> cases hf <;> exact ⟨_, rfl⟩
    · rwa [Bool.and_eq_false_iff, beq_eq_false_iff_ne, beq_eq_false_iff_ne]
  · refine reservedField_of_whenZero (b := w1.extractLsb' 8 24 == 0) ?_ ?_
    · cases hf
      exact ⟨_, rfl⟩
    · exact beq_eq_false_iff_ne.mpr (mt (extractLsb'_high_eq_zero rfl).mp hw1)
  · refine reservedField_of_whenZero (b := w1.extractLsb' 16 16 == 0) ?_ ?_
    · fin_cases hop <;> cases hf <;> exact ⟨_, rfl⟩
    · exact beq_eq_false_iff_ne.mpr (mt (extractLsb'_high_eq_zero rfl).mp hw1)

theorem decodeCommand_of_none {w0 : Word} (hf : formatOf (opField w0) = none) (ws : List Word) :
    decodeCommand (w0 :: ws) = .error .illegalOpcode := by
  simp [decodeCommand, hf]

/-! ### The frames of 95_test_vectors.md (R98) -/

/-- Settles O3: each frame written out in spec/ is the encoder's frame of its instruction. -/
theorem specFramesDecode : Obligations.SpecFramesDecode :=
  ⟨decodeFrame_encode (i := .gptInit 0 10 1 0 true true 2) rfl,
   decodeFrame_encode (i := .gptSetIntervalPeriodic 1 1 3 0x20000201) rfl,
   decodeFrame_encode (i := .gptPwmInit 3 999 2 0 1000) rfl,
   decodeFrame_encode (i := .stDelayMs 5000) rfl,
   decodeFrame_encode (i := .usInit 1 2 12 1 13 0) rfl,
   decodeFrame_encode (i := .gptTick 2) rfl,
   decodeFrame_encode (i := .extiEdge 6) rfl⟩

end Sys2Proof

namespace Sys2Proof.Machine

/-! ### The step on a frame that is no instruction (R90, R93) -/

/-- An undefined or reserved encoding is answered in a ready block. -/
theorem step_of_illegal {s : State} {p : Presentation} {rest : List Presentation} (h : s.Ready)
    (hin : s.input = p :: rest)
    (hd : decodeFrame p.port p.words = .error .illegalOpcode ∨ decodeFrame p.port p.words = .error .reservedField) :
    step s = .next ({ s with input := remainingInput p rest }.answer .illegal 0) := by
  have hready : State.Ready { s with input := remainingInput p rest } := h
  obtain hd | hd := hd <;> simp only [step, serve, hin, hd] <;> exact command_of_ready hready

theorem step_of_notAnEvent {s : State} {p : Presentation} {rest : List Presentation} (h : s.Live)
    (hin : s.input = p :: rest) (hd : decodeFrame p.port p.words = .error .notAnEvent) :
    step s = .next { s with input := remainingInput p rest } := by
  simp only [step, serve, hin, hd]
  exact event_of_live h

/-- Settles O5: the decoder rejects both kinds of frame by name, and the step answers both names alike. -/
theorem illegalFramesAreAnswered : Obligations.IllegalFramesAreAnswered := by
  intro s w0 ws rest hready hin hillegal
  refine step_of_illegal hready hin ?_
  obtain hop | ⟨f, hf, hlen, hr⟩ := hillegal
  · exact .inl (decodeCommand_of_none (formatOf_of_undefinedOp hop) ws)
  · exact .inr ((decodeCommand_of_whole hf hlen).trans (decodeFields_of_reservedNonZero hf hr _))

/-- Settles O6: the decoder rejects the word as no event, and the gate is passed with nothing to run. -/
theorem otherEventWordsAreIgnored : Obligations.OtherEventWordsAreIgnored := fun _ _ more _ hlive hin hw =>
  step_of_notAnEvent hlive hin (decodeEvent_of_not_eventWord hw more)

/-! ### Callbacks come from tick handlers alone (R97) -/

/-- `t` has the records of `s` and after them no CALLBACK. -/
def AppendsNoCallback (s t : State) : Prop :=
  ∃ records, t.out = s.out ++ records ∧ ∀ u k cb, .callback u k cb ∉ records

theorem AppendsNoCallback.of_out_eq {s t : State} (h : t.out = s.out) : AppendsNoCallback s t :=
  ⟨[], by simp [h], by simp⟩

theorem AppendsNoCallback.refl (s : State) : AppendsNoCallback s s := .of_out_eq rfl

theorem AppendsNoCallback.trans {s t u : State} (hst : AppendsNoCallback s t) (htu : AppendsNoCallback t u) :
    AppendsNoCallback s u := by
  obtain ⟨first, ht, hfirst⟩ := hst
  obtain ⟨second, hu, hsecond⟩ := htu
  refine ⟨first ++ second, by rw [hu, ht, List.append_assoc], fun x k cb hmem => ?_⟩
  exact (List.mem_append.mp hmem).elim (hfirst x k cb) (hsecond x k cb)

theorem appendsNoCallback_respond (x : Status) (v : Word) (s : State) : AppendsNoCallback s (respond x v s) :=
  ⟨[.response x v], rfl, by simp⟩

theorem appendsNoCallback_emitCall (c : Call) (s : State) : AppendsNoCallback s (emitCall c s) :=
  ⟨[.call c], rfl, by simp⟩

theorem appendsNoCallback_raise (r : Reason) (s : State) : AppendsNoCallback s (raise r s) :=
  .of_out_eq (raise_out r s)

theorem startDelay_appendsNoCallback (t : Nat) (k : Continuation) (s : State) :
    AppendsNoCallback s (startDelay t k s) := by
  rcases startDelay_cases t k s with e | ⟨n, rest, -, e⟩ <;> rw [e]
  · exact appendsNoCallback_raise _ s
  · exact .of_out_eq rfl

theorem trigHighPhase_appendsNoCallback (i : Nat) (s : State) : AppendsNoCallback s (trigHighPhase i s) := by
  unfold trigHighPhase
  split
  · exact appendsNoCallback_raise _ s
  · exact (appendsNoCallback_emitCall _ s).trans (startDelay_appendsNoCallback ..)

theorem trigLowPhase_appendsNoCallback (i : Nat) (s : State) : AppendsNoCallback s (trigLowPhase i s) := by
  unfold trigLowPhase
  split
  · exact appendsNoCallback_raise _ s
  · exact (appendsNoCallback_emitCall _ s).trans (.of_out_eq rfl)

theorem delaySegmentDone_appendsNoCallback (rest : List Ticks) (k : Continuation) (s : State) :
    AppendsNoCallback s (delaySegmentDone rest k s) := by
  cases rest with
  | cons n rest => exact .of_out_eq rfl
  | nil =>
    have hstopped : AppendsNoCallback s (delayStopped s) := .of_out_eq rfl
    cases k with
    | respond => exact hstopped.trans (appendsNoCallback_respond ..)
    | usTrigHigh i => exact hstopped.trans (trigHighPhase_appendsNoCallback i _)
    | usTrigLow i => exact hstopped.trans (trigLowPhase_appendsNoCallback i _)

theorem readTimedOut_appendsNoCallback (r : Sensor) (s : State) : AppendsNoCallback s (readTimedOut r s) :=
  (appendsNoCallback_emitCall (.extiDisableLine r.echoPin) s).trans (appendsNoCallback_respond ..)

theorem fgArm_appendsNoCallback {s t : State} (h : fgArm s = some t) : AppendsNoCallback s t := by
  obtain ⟨-, ⟨n, target, -, -, rfl⟩ | ⟨rest, k, -, -, rfl⟩ | ⟨i, -, hpoll⟩⟩ := fgArm_cases h
  · exact appendsNoCallback_respond ..
  · exact delaySegmentDone_appendsNoCallback rest k s
  · obtain ⟨-, rfl⟩ | ⟨r, -, ⟨-, rfl⟩ | ⟨-, -, rfl⟩⟩ := hpoll
    · exact appendsNoCallback_raise _ s
    · exact appendsNoCallback_respond ..
    · exact readTimedOut_appendsNoCallback r s

theorem AppendsNoCallback.fgCheck {s t : State} (h : AppendsNoCallback s t) : AppendsNoCallback s (fgCheck t) :=
  fgCheck_induction h fun _ _ hu harm => hu.trans (fgArm_appendsNoCallback harm)

/-- The records of a read's issue step before its delay (44_ultrasonic.md R235). -/
def startReadCalls (r : Sensor) : List Record :=
  [.call (.extiEnableLine r.echoPin), .call (.extiSetTriggerEdge r.echoPin .both),
   .call (.gpioSetPinValue r.trigPort r.trigPin .low)]

theorem startRead_appendsNoCallback (k : Nat) (r : Sensor) (s : State) : AppendsNoCallback s (startRead k r s) := by
  unfold startRead
  refine AppendsNoCallback.fgCheck (.trans ⟨startReadCalls r, ?_, ?_⟩ (startDelay_appendsNoCallback ..))
  · simp [startReadCalls]
  · simp [startReadCalls]

theorem usInitBody_appendsNoCallback (k : Nat) (r : Sensor) (s : State) : AppendsNoCallback s (usInitBody k r s) := by
  have hcalls : AppendsNoCallback s { s with out := s.out ++ usInitCalls r } :=
    ⟨usInitCalls r, rfl, by simp [usInitCalls]⟩
  exact hcalls.trans (appendsNoCallback_respond ..)

/-- A command answers, calls its collaborators or faults. -/
theorem commandEffect_appendsNoCallback {i : Instr} {s t : State} (h : CommandEffect i s t) :
    AppendsNoCallback s t := by
  cases h with
  | answered | timerWritten | stWritten | sensorWritten => exact appendsNoCallback_respond ..
  | raised r => exact appendsNoCallback_raise r s
  | waitIssued => exact AppendsNoCallback.fgCheck (.of_out_eq rfl)
  | delayIssued ticks => exact (startDelay_appendsNoCallback ticks .respond s).fgCheck
  | sensorInited k r => exact usInitBody_appendsNoCallback k r s
  | readIssued k r => exact startRead_appendsNoCallback k r s

theorem exec_appendsNoCallback {i : Instr} {s t : State} (hst : i ≠ .stTick) (hgpt : ∀ n : Byte, i ≠ .gptTick n)
    (h : exec i s = .next t) : AppendsNoCallback s t := by
  rcases exec_next_cases h with (rfl | ⟨-, heff⟩) | ⟨sel, n, rfl, -, -⟩ | ⟨rfl, -⟩ | ⟨line, l, -, rfl⟩
  · exact .refl _
  · exact commandEffect_appendsNoCallback heff
  · exact absurd rfl (hgpt sel)
  · exact absurd rfl hst
  · exact (AppendsNoCallback.of_out_eq (deliverEdge_out l s)).fgCheck

/-- Settles O19: no command effect, no edge and no round of the foreground check appends a CALLBACK. -/
theorem callbacksOnlyInTickEvents : Obligations.CallbacksOnlyInTickEvents := by
  intro i s t hst hgpt h x hx u k cb hcb
  obtain ⟨records, hout, hnone⟩ := exec_appendsNoCallback hst hgpt h
  rw [hout, List.drop_left, hcb] at hx
  exact hnone u k cb hx

end Sys2Proof.Machine
end

section
/-! The GPT commands in a ready block, each behaviour said once: the checks they share (40_gpt_config.md R110), one write
to the named timer, the codes of their operands (30_encoding.md R84, R88), and the prescaler (40_gpt_config.md R111). -/

namespace Sys2Proof.Machine

/-! ### Answers, faults and writes as whole states -/

theorem failParam_eq_answer (s : State) : failParam s = s.answer .failParam 0 := rfl

theorem failConfig_eq_answer (s : State) : failConfig s = s.answer .failConfig 0 := rfl

theorem respond_eq_answer (x : Status) (v : Word) (s : State) : respond x v s = s.answer x v := rfl

theorem raise_of_ready {s : State} (h : s.Ready) (r : Reason) : raise r s = s.raised r := raise_of_none h.1.2

theorem respondOk_modifyTimer (n : Fin 4) (f : Timer → Timer) (s : State) :
    respondOk (modifyTimer n f s) = (s.putTimer n (f s.timers[n])).answer .ok 0 := rfl

/-! ### The checks of a GPT command (R110) -/

section Checked

variable {i : Instr} {sel : Byte} {s : State} {α : Type} {p : Option α}

/-- A command that runs behind `gptChecked` gives the answers of R110 before its effects. -/
theorem gptGuarded_of_checked {body : Fin 4 → α → State → State} {paramsOk : Prop} (hr : s.Ready)
    (hexec : exec i s = .next (gptChecked sel p body s)) (hp : paramsOk ↔ p.isSome = true) :
    GptGuarded i sel paramsOk s := by
  refine ⟨fun hsel => ?_, fun _ hbad => ?_, fun n hn hok hinit => ?_⟩
  · rw [hexec, gptChecked_badOrdinal hsel, failParam_eq_answer]
  · have hnone : p = none := by simpa [hp] using hbad
    rw [hexec, gptChecked_badParam hnone, failParam_eq_answer]
  · obtain ⟨a, ha⟩ := Option.isSome_iff_exists.mp (hp.mp hok)
    rw [hexec, gptChecked_uninited hn ha hinit, raise_of_ready hr]

/-- A command without operands to check. -/
theorem gptGuarded_of_checked_some {a : α} {body : Fin 4 → α → State → State} (hr : s.Ready)
    (hexec : exec i s = .next (gptChecked sel (some a) body s)) : GptGuarded i sel True s :=
  gptGuarded_of_checked hr hexec (by simp)

theorem exec_of_checked {n : Fin 4} {a : α} {body : Fin 4 → α → State → State}
    (hexec : exec i s = .next (gptChecked sel p body s)) (hn : sel.toNat = n.val) (hp : p = some a)
    (hinit : s.timers[n].inited = true) : exec i s = .next (body n a s) := by
  rw [hexec, gptChecked_run hn hp hinit]

/-- A command whose body is one write of the named timer: the write and the response are its whole effect. -/
theorem exec_of_checked_write {n : Fin 4} {a : α} {f : α → Timer → Timer}
    (hexec : exec i s = .next (gptChecked sel p (fun n a s => respondOk (modifyTimer n (f a) s)) s))
    (hn : sel.toNat = n.val) (hp : p = some a) (hinit : s.timers[n].inited = true) :
    exec i s = .next ((s.putTimer n (f a s.timers[n])).answer .ok 0) :=
  exec_of_checked hexec hn hp hinit

end Checked

/-! ### The operand codes (30_encoding.md R84, R88) -/

theorem countDir?_eq_getElem? (d : Nat) : countDir? d = [CountDir.up, .down, .center][d]? :=
  match d with
  | 0 | 1 | 2 | _ + 3 => rfl

theorem isSome_countDir? {d : Nat} : (countDir? d).isSome = true ↔ d < 3 := by
  simp [countDir?_eq_getElem?]

theorem countDir?_eq_none {d : BitVec 2} : countDir? d.toNat = none ↔ d = 3 := by
  decide +revert

theorem clockDivision?_eq_getElem? (c : BitVec 2) :
    clockDivision? c = [ClockDivision.ckd0, .ckd1, .ckd2][c.toNat]? := by
  decide +revert

theorem clockDivision?_eq_none {c : BitVec 2} : clockDivision? c = none ↔ c = 3 := by
  decide +revert

theorem timeUnit?_eq_none {u : BitVec 2} : timeUnit? u = none ↔ 2 ≤ u.toNat := by
  decide +revert

/-- The divisors by unit code, in the order of R84's codes (00_scope.md R8). -/
theorem map_prescalerDivisor_timeUnit? (u : BitVec 2) :
    (timeUnit? u).map prescalerDivisor = [1000000, 1000][u.toNat]? := by
  decide +revert

theorem onOff?_eq_getElem? (v : Half) : onOff? v = [false, true][v.toNat]? := by
  unfold onOff?
  split
  · next h => simp [h]
  · next h => simp [h]
  · next h0 h1 => rw [List.getElem?_eq_none ((Nat.two_le_iff _).mpr ⟨h0, h1⟩)]

theorem isSome_onOff? {v : Half} : (onOff? v).isSome = true ↔ v.toNat < 2 := by
  simp [onOff?_eq_getElem?]

theorem both?_eq_none {α β : Type} {a : Option α} {b : Option β} : both? a b = none ↔ a = none ∨ b = none := by
  cases a <;> cases b <;> simp

/-! ### The prescaler (40_gpt_config.md R111) -/

theorem prescaler_eq_none {c : Config} {u : TimeUnit}
    (h : c.fPclk / prescalerDivisor u = 0 ∨ 65536 < c.fPclk / prescalerDivisor u) : prescaler c u = none :=
  if_pos (by omega)

theorem prescaler_eq_some {c : Config} {u : TimeUnit} (hpos : 1 ≤ c.fPclk / prescalerDivisor u)
    (hle : c.fPclk / prescalerDivisor u ≤ 65536) :
    prescaler c u = some (BitVec.ofNat 16 (c.fPclk / prescalerDivisor u - 1)) :=
  if_neg (by omega)

/-! ### The stale update flag (60_exceptions.md R278) -/

theorem staleUpdateFlag_eq_true {uie : Bool} {t : Timer} : staleUpdateFlag uie t = true ↔ uie = true ∧ t.uif = true :=
  Bool.and_eq_true_iff

/-! ### The remaining time (40_gpt_config.md R120) -/

section RemainingTime

variable {s : State} {t : Timer}

theorem setWidth_sub_eq_ofNat {a b : Half} (h : b ≤ a) :
    (a - b).setWidth 32 = BitVec.ofNat 32 (a.toNat - b.toNat) := by
  rw [← BitVec.ofNat_toNat, BitVec.toNat_sub_of_le h]

theorem remainingTime_up (hdir : t.dir = .up) (h : t.cnt ≤ t.arr) :
    remainingTime t s = s.answer .ok (BitVec.ofNat 32 (t.arr.toNat - t.cnt.toNat)) := by
  simp only [remainingTime, hdir, if_pos h, setWidth_sub_eq_ofNat h, respond_eq_answer]

theorem remainingTime_up_past (hr : s.Ready) (hdir : t.dir = .up) (h : t.arr < t.cnt) :
    remainingTime t s = s.raised .remainingUndefined := by
  simp only [remainingTime, hdir, if_neg (BitVec.not_le.mpr h), raise_of_ready hr]

theorem remainingTime_down (hdir : t.dir = .down) :
    remainingTime t s = s.answer .ok (BitVec.ofNat 32 t.cnt.toNat) := by
  simp only [remainingTime, hdir, BitVec.ofNat_toNat, respond_eq_answer]

theorem remainingTime_center (hr : s.Ready) (hdir : t.dir = .center) :
    remainingTime t s = s.raised .centerAligned := by
  simp only [remainingTime, hdir, raise_of_ready hr]

end RemainingTime

/-! ### GPT_INIT (40_gpt_config.md R112) -/

section Init

variable {s : State} {sel : Byte} {n : Fin 4} {arr : Half} {unit dir : BitVec 2} {arpe uie : Bool} {ckd : BitVec 2}
  {u : TimeUnit} {d : CountDir} {k : ClockDivision}

theorem exec_gptInit_badOrdinal (hr : s.Ready) (hsel : 4 ≤ sel.toNat) :
    exec (.gptInit sel arr unit dir arpe uie ckd) s = .next (s.answer .failParam 0) := by
  rw [exec, execGptInit, command_of_ready hr, timerIndex?_of_ge hsel, failParam_eq_answer]

theorem exec_gptInit_badSelector (hr : s.Ready) (hn : sel.toNat = n.val)
    (hbad : countDir? dir.toNat = none ∨ clockDivision? ckd = none) :
    exec (.gptInit sel arr unit dir arpe uie ckd) s = .next (s.answer .failParam 0) := by
  rw [exec, execGptInit, command_of_ready hr, timerIndex?_of_lt hn, both?_eq_none.mpr hbad, failParam_eq_answer]

theorem exec_gptInit_badUnit (hr : s.Ready) (hn : sel.toNat = n.val) (hd : countDir? dir.toNat = some d)
    (hk : clockDivision? ckd = some k) (hu : timeUnit? unit = none) :
    exec (.gptInit sel arr unit dir arpe uie ckd) s = .next (s.answer .failConfig 0) := by
  rw [exec, execGptInit, command_of_ready hr, timerIndex?_of_lt hn, hd, hk, both?_some_some, hu, failConfig_eq_answer]

theorem exec_gptInit_run (hr : s.Ready) (hn : sel.toNat = n.val) (hd : countDir? dir.toNat = some d)
    (hk : clockDivision? ckd = some k) (hu : timeUnit? unit = some u) :
    exec (.gptInit sel arr unit dir arpe uie ckd) s = .next (gptInitBody n arr u d k arpe uie s) := by
  rw [exec, execGptInit, command_of_ready hr, timerIndex?_of_lt hn, hd, hk, both?_some_some, hu]

theorem gptInitBody_prescalerRange (hr : s.Ready) (hpsc : prescaler s.cfg u = none) :
    gptInitBody n arr u d k arpe uie s = s.raised .prescalerRange := by
  rw [gptInitBody, hpsc, raise_of_ready hr]

theorem gptInitBody_stale {psc : Half} (hr : s.Ready) (hpsc : prescaler s.cfg u = some psc)
    (hstale : uie = true ∧ s.timers[n].uif = true) :
    gptInitBody n arr u d k arpe uie s = s.raised .staleUpdateFlag := by
  simp only [gptInitBody, hpsc, if_pos ((staleUpdateFlag_eq_true (t := timerAt n s)).mpr hstale), raise_of_ready hr]

theorem gptInitBody_run {psc : Half} (hpsc : prescaler s.cfg u = some psc)
    (hstale : ¬(uie = true ∧ s.timers[n].uif = true)) :
    gptInitBody n arr u d k arpe uie s =
      (s.putTimer n { writeArr arr { s.timers[n] with psc := psc } with
        arpe := arpe, dir := d, ckd := k, uie := uie, inited := true }).answer .ok 0 := by
  simp only [gptInitBody, hpsc, if_neg (mt (staleUpdateFlag_eq_true (t := timerAt n s)).mp hstale),
    respondOk_modifyTimer]

end Init

end Sys2Proof.Machine
end

section
/-! The statements of 40_gpt_config.md (R110 to R121). -/

namespace Sys2Proof.Machine

/-- Settles O22: the checks in order, then the prescaler's range, the stale flag and the write, which programs the
reload under the old ARPE. -/
theorem gptInitConfiguresTheTimer : Obligations.GptInitConfiguresTheTimer := by
  intro s sel arr unit dir arpe uie ckd hr
  refine ⟨exec_gptInit_badOrdinal hr, fun hsel hbad => ?_, fun hsel hdir hckd hunit => ?_,
    fun n d k divisor hn hd hk hdivisor => ?_⟩
  · exact exec_gptInit_badSelector hr (n := ⟨sel.toNat, hsel⟩) rfl
      (hbad.imp countDir?_eq_none.mpr clockDivision?_eq_none.mpr)
  · obtain ⟨d, hd⟩ := Option.ne_none_iff_exists'.mp (mt countDir?_eq_none.mp hdir)
    obtain ⟨k, hk⟩ := Option.ne_none_iff_exists'.mp (mt clockDivision?_eq_none.mp hckd)
    exact exec_gptInit_badUnit hr (n := ⟨sel.toNat, hsel⟩) rfl hd hk (timeUnit?_eq_none.mpr hunit)
  · rw [← countDir?_eq_getElem?] at hd
    rw [← clockDivision?_eq_getElem?] at hk
    rw [← map_prescalerDivisor_timeUnit?, Option.map_eq_some_iff] at hdivisor
    obtain ⟨u, hu, rfl⟩ := hdivisor
    rw [exec_gptInit_run hr hn hd hk hu]
    refine ⟨fun hrange => ?_, fun hpos hle huie huif => ?_, fun hpos hle hstale => ?_⟩
    · rw [gptInitBody_prescalerRange hr (prescaler_eq_none hrange)]
    · rw [gptInitBody_stale hr (prescaler_eq_some hpos hle) ⟨huie, huif⟩]
    · rw [gptInitBody_run (prescaler_eq_some hpos hle) hstale]
      rfl

/-- Settles O23: both are one write of `CEN` behind the checks. -/
theorem gptEnableAndDisableWriteCen : Obligations.GptEnableAndDisableWriteCen := by
  intro s sel hr
  have henable : exec (.gptEnable sel) s = .next _ := command_of_ready hr
  have hdisable : exec (.gptDisable sel) s = .next _ := command_of_ready hr
  exact ⟨gptGuarded_of_checked_some hr henable, gptGuarded_of_checked_some hr hdisable, fun n hn hinit =>
    ⟨exec_of_checked_write henable hn rfl hinit, exec_of_checked_write hdisable hn rfl hinit⟩⟩

/-- Settles O24: one write each behind the checks, the period's being procedure `WriteARR`. -/
theorem gptSetPrescalerAndPeriod : Obligations.GptSetPrescalerAndPeriod := by
  intro s sel v hr
  have hpsc : exec (.gptSetPrescaler sel v) s = .next _ := command_of_ready hr
  have harr : exec (.gptSetPeriod sel v) s = .next _ := command_of_ready hr
  exact ⟨gptGuarded_of_checked_some hr hpsc, gptGuarded_of_checked_some hr harr, fun n hn hinit =>
    ⟨exec_of_checked_write hpsc hn rfl hinit, exec_of_checked_write (f := fun _ => writeArr v) harr hn rfl hinit⟩⟩

/-- Settles O25: the three codes are the direction's operand check. -/
theorem gptSetCountDirectionWritesDir : Obligations.GptSetCountDirectionWritesDir := by
  intro s sel dir hr
  have hexec : exec (.gptSetCountDirection sel dir) s = .next _ := command_of_ready hr
  exact ⟨gptGuarded_of_checked hr hexec isSome_countDir?.symm, fun n d hn hinit hd =>
    exec_of_checked_write hexec hn ((countDir?_eq_getElem? _).trans hd) hinit⟩

/-- Settles O26: both codes write `ARPE` alone. -/
theorem gptSetArrBufferWritesArpe : Obligations.GptSetArrBufferWritesArpe := by
  intro s sel on hr
  have hexec : exec (.gptSetArrBuffer sel on) s = .next _ := command_of_ready hr
  refine ⟨gptGuarded_of_checked hr hexec isSome_onOff?.symm, fun n hn hinit => ⟨?_, ?_⟩⟩
  · rintro rfl
    exact exec_of_checked_write hexec hn rfl hinit
  · rintro rfl
    exact exec_of_checked_write hexec hn rfl hinit

/-- Settles O27: the body raises where the interrupt is switched on over a standing flag, and writes `UIE` otherwise. -/
theorem gptSetInterruptWritesUie : Obligations.GptSetInterruptWritesUie := by
  intro s sel on hr
  have hexec : exec (.gptSetInterrupt sel on) s = .next _ := command_of_ready hr
  refine ⟨gptGuarded_of_checked hr hexec isSome_onOff?.symm, fun n hn hinit => ⟨?_, ?_, ?_⟩⟩
  · rintro rfl
    exact exec_of_checked hexec hn rfl hinit
  · rintro rfl huif
    have hstale : staleUpdateFlag true (timerAt n s) = true := staleUpdateFlag_eq_true.mpr ⟨rfl, huif⟩
    rw [exec_of_checked hexec hn rfl hinit, if_pos hstale, raise_of_ready hr]
  · rintro rfl huif
    have hstale : ¬ staleUpdateFlag true (timerAt n s) = true := by
      rw [staleUpdateFlag_eq_true, timerAt_def, huif]
      nofun
    rw [exec_of_checked hexec hn rfl hinit, if_neg hstale, respondOk_modifyTimer]

/-- Settles O28: each read answers from the timer it names, the remaining time by the count direction. -/
theorem gptReadsAnswerAndWriteNothing : Obligations.GptReadsAnswerAndWriteNothing := by
  intro s sel hr
  have hremaining : exec (.gptGetRemainingTime sel) s = .next _ := command_of_ready hr
  have hcounter : exec (.gptGetCounterValue sel) s = .next _ := command_of_ready hr
  refine ⟨gptGuarded_of_checked_some hr hremaining, gptGuarded_of_checked_some hr hcounter, fun n hn hinit => ?_⟩
  rw [exec_of_checked hcounter hn rfl hinit, exec_of_checked hremaining hn rfl hinit, timerAt_def]
  refine ⟨?_, fun hdir hle => ?_, fun hdir hlt => ?_, fun hdir => ?_, fun hdir => ?_⟩
  · rw [BitVec.ofNat_toNat, respond_eq_answer]
  · rw [remainingTime_up hdir hle]
  · rw [remainingTime_up_past hr hdir hlt]
  · rw [remainingTime_down hdir]
  · rw [remainingTime_center hr hdir]

end Sys2Proof.Machine
end

section
/-! The GPT counter, each behaviour said once (41_gpt_interval.md R141, R143, R144): what one tick of a timer leaves,
what an expiry and its handler write, and the operands of the busy-wait and of the intervals (R140, R147). -/

namespace Sys2Proof.Machine

/-! ### The counter of a timer -/

/-- `s` with the counter of timer `n` replaced. -/
def State.putCount (s : State) (n : Fin 4) (v : Half) : State := s.putTimer n { s.timers[n] with cnt := v }

theorem putCount_timer (s : State) (n : Fin 4) (v : Half) :
    (s.putCount n v).timers[n] = { s.timers[n] with cnt := v } :=
  putTimer_getElem_same s n _

@[simp] theorem putCount_putCount (s : State) (n : Fin 4) (v w : Half) :
    (s.putCount n v).putCount n w = s.putCount n w := by
  simp only [State.putCount, putTimer_getElem_same, putTimer_putTimer]

theorem putCount_self {s : State} {n : Fin 4} {v : Half} (h : s.timers[n].cnt = v) : s.putCount n v = s := by
  subst h
  exact putTimer_self s n

/-! ### One tick, before the foreground is checked (R141) -/

section Count

variable {n : Fin 4} {s : State}

theorem gptCount_stopped (hcen : s.timers[n].cen = false) : gptCount n s = s := by
  simp only [gptCount, timerAt_def, hcen, Bool.false_eq_true, if_false]

theorem gptCount_center (hcen : s.timers[n].cen = true) (hdir : s.timers[n].dir = .center) :
    gptCount n s = raise .centerAligned s := by
  simp only [gptCount, timerAt_def, hcen, hdir, if_true]

/-- The branches of an up-count. -/
theorem gptCount_of_up (hcen : s.timers[n].cen = true) (hdir : s.timers[n].dir = .up) :
    gptCount n s =
      if s.timers[n].arrSh = 0 then raise .zeroReloadCount s
      else if s.timers[n].arrSh < s.timers[n].cnt then raise .counterAboveReload s
      else if s.timers[n].cnt = s.timers[n].arrSh then updateEvent n (s.putCount n 0)
      else s.putCount n (s.timers[n].cnt + 1) := by
  simp only [gptCount, timerAt_def, hcen, hdir, if_true]
  rfl

/-- The branches of a down-count. -/
theorem gptCount_of_down (hcen : s.timers[n].cen = true) (hdir : s.timers[n].dir = .down) :
    gptCount n s =
      if s.timers[n].arrSh = 0 then raise .zeroReloadCount s
      else if s.timers[n].cnt = 0 then updateEvent n (s.putCount n s.timers[n].arrSh)
      else s.putCount n (s.timers[n].cnt - 1) := by
  simp only [gptCount, timerAt_def, hcen, hdir, if_true]
  rfl

theorem gptCount_zeroReload (hcen : s.timers[n].cen = true) (hdir : s.timers[n].dir ≠ .center)
    (hsh : s.timers[n].arrSh = 0) : gptCount n s = raise .zeroReloadCount s := by
  cases hd : s.timers[n].dir with
  | center => exact absurd hd hdir
  | up => rw [gptCount_of_up hcen hd, if_pos hsh]
  | down => rw [gptCount_of_down hcen hd, if_pos hsh]

theorem gptCount_aboveReload (hcen : s.timers[n].cen = true) (hdir : s.timers[n].dir = .up)
    (hsh : s.timers[n].arrSh ≠ 0) (hlt : s.timers[n].arrSh < s.timers[n].cnt) :
    gptCount n s = raise .counterAboveReload s := by
  rw [gptCount_of_up hcen hdir, if_neg hsh, if_pos hlt]

theorem gptCount_up (hcen : s.timers[n].cen = true) (hdir : s.timers[n].dir = .up)
    (hlt : s.timers[n].cnt < s.timers[n].arrSh) : gptCount n s = s.putCount n (s.timers[n].cnt + 1) := by
  have hsh : ¬ s.timers[n].arrSh = 0 := by bv_omega
  have hle : ¬ s.timers[n].arrSh < s.timers[n].cnt := by bv_omega
  have hne : ¬ s.timers[n].cnt = s.timers[n].arrSh := by bv_omega
  rw [gptCount_of_up hcen hdir, if_neg hsh, if_neg hle, if_neg hne]

theorem gptCount_down (hcen : s.timers[n].cen = true) (hdir : s.timers[n].dir = .down)
    (hsh : s.timers[n].arrSh ≠ 0) (hne : s.timers[n].cnt ≠ 0) :
    gptCount n s = s.putCount n (s.timers[n].cnt - 1) := by
  rw [gptCount_of_down hcen hdir, if_neg hsh, if_neg hne]

/-- The timer is at its expiry, after which the counter shows `wrapped` (R141). -/
def Expires (t : Timer) (wrapped : Half) : Prop :=
  (t.dir = .up ∧ t.cnt = t.arrSh ∧ wrapped = 0) ∨ (t.dir = .down ∧ t.cnt = 0 ∧ wrapped = t.arrSh)

theorem gptCount_expires {wrapped : Half} (hcen : s.timers[n].cen = true) (hsh : s.timers[n].arrSh ≠ 0)
    (hexp : Expires s.timers[n] wrapped) : gptCount n s = updateEvent n (s.putCount n wrapped) := by
  obtain ⟨hdir, hcnt, rfl⟩ | ⟨hdir, hcnt, rfl⟩ := hexp
  · have hle : ¬ s.timers[n].arrSh < s.timers[n].cnt := by rw [hcnt]; exact BitVec.lt_irrefl _
    rw [gptCount_of_up hcen hdir, if_neg hsh, if_neg hle, if_pos hcnt]
  · rw [gptCount_of_down hcen hdir, if_neg hsh, if_pos hcnt]

end Count

/-! ### The update event (R143) -/

/-- The shadow an update event leaves (70_reset_and_hazards.md R316, R319; log 22). -/
def reloadedShadow (n : Fin 4) (s : State) : Half := if shadowHeld n s then s.timers[n].arrSh else s.timers[n].arr

theorem reloadedShadow_cases (n : Fin 4) (s : State) :
    reloadedShadow n s = s.timers[n].arr ∨
    (reloadedShadow n s = s.timers[n].arrSh ∧ ∃ target, s.fg = .gptWait n target ∧ s.timers[n].arrSh < target) := by
  unfold reloadedShadow
  rcases shadowHeld_cases n s with hfree | ⟨-, hwait⟩
  · exact .inl (by simp [hfree])
  · cases shadowHeld n s with
    | false => exact .inl rfl
    | true => exact .inr ⟨rfl, hwait⟩

/-- A shadow that already shows the reload stays as it is, held or not. -/
theorem reloadedShadow_of_eq {n : Fin 4} {s : State} (h : s.timers[n].arrSh = s.timers[n].arr) :
    reloadedShadow n s = s.timers[n].arr := by
  rcases reloadedShadow_cases n s with e | ⟨e, -⟩
  · exact e
  · exact e.trans h

/-- In a busy-wait whose target lies above the shadow, the free value of log 22 decides. -/
theorem reloadedShadow_of_wait {n : Fin 4} {s : State} {target : Half} (hfg : s.fg = .gptWait n target)
    (hlt : s.timers[n].arrSh < target) :
    reloadedShadow n s = if Config.waitHoldsShadow then s.timers[n].arrSh else s.timers[n].arr := by
  rw [reloadedShadow, shadowHeld_of_wait hfg hlt]

/-- Timer `n` after its counter wrapped and the update event wrote the flag and the shadow. -/
def expiredTimer (n : Fin 4) (s : State) (wrapped : Half) : Timer :=
  { s.timers[n] with cnt := wrapped, uif := true, arrSh := reloadedShadow n s }

theorem reloadedShadow_putCount (n : Fin 4) (s : State) (v : Half) :
    reloadedShadow n (s.putCount n v) = reloadedShadow n s := by
  have hheld : shadowHeld n (s.putCount n v) = shadowHeld n s := by
    have hsh : (timerAt n (s.putCount n v)).arrSh = (timerAt n s).arrSh := by
      rw [timerAt_def, putCount_timer, timerAt_def]
    unfold shadowHeld
    rw [hsh]
    rfl
  simp only [reloadedShadow, hheld, putCount_timer]

theorem updateEvent_putCount (n : Fin 4) (s : State) (wrapped : Half) :
    updateEvent n (s.putCount n wrapped) =
      if s.timers[n].uie then gptHandler n (s.putTimer n (expiredTimer n s wrapped))
      else s.putTimer n (expiredTimer n s wrapped) := by
  have hput : modifyTimer n (fun t => { t with uif := true, arrSh := reloadedShadow n (s.putCount n wrapped) })
      (s.putCount n wrapped) = s.putTimer n (expiredTimer n s wrapped) := by
    rw [modifyTimer_eq_putTimer, reloadedShadow_putCount, putCount_timer, State.putCount, putTimer_putTimer]
    rfl
  obtain ⟨_, rfl, ⟨hu, e⟩ | ⟨hu, e⟩⟩ := updateEvent_cases n (s.putCount n wrapped) <;>
    rw [putCount_timer] at hu <;> rw [e, hu]
  · exact hput
  · exact congrArg (gptHandler n) hput

/-! ### The update interrupt (R144) -/

section Handler

variable {n : Fin 4} {s : State}

theorem gptHandler_empty (h : s.timers[n].slot = none) : gptHandler n s = raise .noCallback s := by
  unfold gptHandler
  rw [timerAt_def, h]

theorem gptHandler_singleShot {cb : Word} (h : s.timers[n].slot = some ⟨.singleShot, cb⟩) :
    gptHandler n s = emit (.callback .gpt n.val cb) (s.putTimer n { s.timers[n] with
      uif := false, uie := false, cen := false, arr := 0,
      arrSh := if s.timers[n].arpe then s.timers[n].arrSh else 0 }) := by
  unfold gptHandler
  rw [timerAt_def, h]
  simp only [modifyTimer_eq_putTimer, putTimer_emit, emit_timers, putTimer_getElem_same, putTimer_putTimer]
  rfl

theorem gptHandler_periodic {cb : Word} (h : s.timers[n].slot = some ⟨.periodic, cb⟩) :
    gptHandler n s = emit (.callback .gpt n.val cb) (s.putTimer n { s.timers[n] with uif := false }) := by
  unfold gptHandler
  rw [timerAt_def, h]
  rfl

end Handler

/-! ### The event GPT_TICK -/

section Tick

variable {sel : Byte} {n : Fin 4} {s : State}

theorem exec_gptTick (h : s.Live) (hn : sel.toNat = n.val) :
    exec (.gptTick sel) s = .next (fgCheck (gptCount n s)) :=
  execGptTick_of_lt h hn

/-- A tick that raises writes nothing but the fault. -/
theorem exec_gptTick_raise {r : Reason} (h : s.Live) (hn : sel.toNat = n.val) (hcount : gptCount n s = raise r s) :
    exec (.gptTick sel) s = .next (s.raised r) := by
  rw [exec_gptTick h hn, hcount, fgCheck_raise, raise_of_none h.2]
  rfl

section Expiry

variable {wrapped : Half} (h : s.Live) (hn : sel.toNat = n.val) (hcen : s.timers[n].cen = true)
  (hsh : s.timers[n].arrSh ≠ 0) (hexp : Expires s.timers[n] wrapped)

include h hn hcen hsh hexp

theorem exec_gptTick_expires :
    exec (.gptTick sel) s = .next (fgCheck (if s.timers[n].uie then
      gptHandler n (s.putTimer n (expiredTimer n s wrapped)) else s.putTimer n (expiredTimer n s wrapped))) := by
  rw [exec_gptTick h hn, gptCount_expires hcen hsh hexp, updateEvent_putCount]

theorem exec_gptTick_expires_quiet (huie : s.timers[n].uie = false) :
    exec (.gptTick sel) s = .next (fgCheck (s.putTimer n (expiredTimer n s wrapped))) := by
  simp only [exec_gptTick_expires h hn hcen hsh hexp, huie, Bool.false_eq_true, if_false]

theorem exec_gptTick_expires_empty (huie : s.timers[n].uie = true)
    (hslot : s.timers[n].slot = none) :
    exec (.gptTick sel) s = .next ((s.putTimer n (expiredTimer n s wrapped)).raised .noCallback) := by
  have hslot' : (s.putTimer n (expiredTimer n s wrapped)).timers[n].slot = none := by
    rw [putTimer_getElem_same]; exact hslot
  rw [exec_gptTick_expires h hn hcen hsh hexp, if_pos huie, gptHandler_empty hslot', fgCheck_raise,
    raise_of_none (s := s.putTimer n _) h.2]
  rfl

theorem exec_gptTick_expires_singleShot {cb : Word} (huie : s.timers[n].uie = true)
    (hslot : s.timers[n].slot = some ⟨.singleShot, cb⟩) :
    exec (.gptTick sel) s = .next (fgCheck { s.putTimer n { s.timers[n] with
        cnt := wrapped, uif := false, uie := false, cen := false, arr := 0,
        arrSh := if s.timers[n].arpe then reloadedShadow n s else 0 } with
      out := s.out ++ [.callback .gpt n.val cb] }) := by
  have hslot' : (s.putTimer n (expiredTimer n s wrapped)).timers[n].slot = some ⟨.singleShot, cb⟩ := by
    rw [putTimer_getElem_same]; exact hslot
  rw [exec_gptTick_expires h hn hcen hsh hexp, if_pos huie, gptHandler_singleShot hslot', putTimer_putTimer,
    putTimer_getElem_same]
  rfl

theorem exec_gptTick_expires_periodic {cb : Word} (huie : s.timers[n].uie = true)
    (hslot : s.timers[n].slot = some ⟨.periodic, cb⟩) :
    exec (.gptTick sel) s = .next (fgCheck { s.putTimer n { s.timers[n] with
        cnt := wrapped, uif := false, arrSh := reloadedShadow n s } with
      out := s.out ++ [.callback .gpt n.val cb] }) := by
  have hslot' : (s.putTimer n (expiredTimer n s wrapped)).timers[n].slot = some ⟨.periodic, cb⟩ := by
    rw [putTimer_getElem_same]; exact hslot
  rw [exec_gptTick_expires h hn hcen hsh hexp, if_pos huie, gptHandler_periodic hslot', putTimer_putTimer,
    putTimer_getElem_same]
  rfl

end Expiry

end Tick

/-! ### The operands of the busy-wait and of the intervals (R140, R145, R147) -/

theorem isSome_check? {b : Bool} : (check? b).isSome = true ↔ b = true := by
  cases b <;> simp [check?]

theorem tickTypeOk_iff {c : Config} {tickType : Half} : tickTypeOk c tickType = true ↔ tickType ∈ c.tickTypes :=
  decide_eq_true_iff

theorem handleOk_iff {cb : Word} : handleOk cb = true ↔ cb ≠ 0 := bne_iff_ne

theorem isSome_both? {α β : Type} {a : Option α} {b : Option β} :
    (both? a b).isSome = true ↔ a.isSome = true ∧ b.isSome = true := by
  cases a <;> cases b <;> simp

theorem reloadOf_eq_none {ticks : Word} {tickType : Half}
    (h : ticks.toNat * tickType.toNat = 0 ∨ 65535 < ticks.toNat * tickType.toNat) : reloadOf ticks tickType = none :=
  if_pos h

theorem reloadOf_eq_some {ticks : Word} {tickType : Half} (hpos : 1 ≤ ticks.toNat * tickType.toNat)
    (hle : ticks.toNat * tickType.toNat ≤ 65535) :
    reloadOf ticks tickType = some (BitVec.ofNat 16 (ticks.toNat * tickType.toNat)) :=
  if_neg (by omega)

theorem ofNat_sub_one {p : Nat} (hpos : 1 ≤ p) : BitVec.ofNat 16 p - 1 = BitVec.ofNat 16 (p - 1) := by
  bv_omega

/-! ### The busy-wait (R145, R146) -/

section BusyWait

variable {sel : Byte} {tickType : Half} {ticks : Word} {n : Fin 4} {s : State}

/-- `s` with timer `n` replaced and a busy-wait on it in progress. -/
def State.waitOn (s : State) (n : Fin 4) (target : Half) (t : Timer) : State :=
  { s.putTimer n t with fg := .gptWait n target }

theorem waitOn_timer (s : State) (n : Fin 4) (target : Half) (t : Timer) :
    (s.waitOn n target t).timers[n] = t :=
  putTimer_getElem_same s n t

@[simp] theorem waitOn_putTimer (s : State) (n : Fin 4) (target : Half) (t u : Timer) :
    (s.waitOn n target t).putTimer n u = s.waitOn n target u := by
  simp [State.waitOn, State.putTimer]

theorem waitOn_putCount (s : State) (n : Fin 4) (target : Half) (t : Timer) (v : Half) :
    (s.waitOn n target t).putCount n v = s.waitOn n target { t with cnt := v } := by
  simp only [State.putCount, waitOn_timer, waitOn_putTimer]

theorem fgCheck_waitOn {target : Half} (hf : s.fault = none) (t : Timer) :
    fgCheck (s.waitOn n target t) =
      if t.cnt = target then busyWaitDone n (s.waitOn n target t) else s.waitOn n target t := by
  rw [fgCheck_gptWait (s := s.waitOn n target t) hf rfl, waitOn_timer]

/-- The completion of a busy-wait that was issued in an idle block (R146). -/
theorem busyWaitDone_waitOn (hidle : s.fg = .idle) (target : Half) (t : Timer) :
    busyWaitDone n (s.waitOn n target t) =
      (s.putTimer n (writeArr 0 { t with cen := false, cnt := 0 })).answer .ok 0 := by
  have hput : modifyTimer n (fun t => writeArr 0 { t with cen := false, cnt := 0 }) (s.putTimer n t) =
      s.putTimer n (writeArr 0 { t with cen := false, cnt := 0 }) := by
    rw [modifyTimer_eq_putTimer, putTimer_getElem_same, putTimer_putTimer]
  calc busyWaitDone n (s.waitOn n target t)
      = respondOk { modifyTimer n (fun t => writeArr 0 { t with cen := false, cnt := 0 }) (s.putTimer n t) with
          fg := s.fg } := by rw [hidle]; rfl
    _ = _ := by rw [hput]; rfl

/-- Timer `t` as the issue step of GPT_BUSY_WAIT of product `p` leaves it (R145). -/
def waitingTimer (p : Nat) (t : Timer) : Timer :=
  { t with
    arr := BitVec.ofNat 16 p, arrSh := if t.arpe then t.arrSh else BitVec.ofNat 16 p, uie := false, cen := true }

theorem completed_waitingTimer (p : Nat) (t : Timer) :
    writeArr 0 { waitingTimer p t with cen := false, cnt := 0 } = { t with
      arr := 0, arrSh := if t.arpe then t.arrSh else 0, uie := false, cen := false, cnt := 0 } := by
  cases h : t.arpe <;> simp [writeArr, waitingTimer, h]

theorem exec_gptBusyWait_reloadRange (hr : s.Ready) (hn : sel.toNat = n.val) (ht : tickType ∈ s.cfg.tickTypes)
    (hi : s.timers[n].inited = true)
    (hp : ticks.toNat * tickType.toNat = 0 ∨ 65535 < ticks.toNat * tickType.toNat) :
    exec (.gptBusyWait sel tickType ticks) s = .next (s.raised .reloadRange) := by
  have hexec : exec (.gptBusyWait sel tickType ticks) s = .next _ := command_of_ready hr
  rw [exec_of_checked hexec hn (check?_eq_some.mpr (tickTypeOk_iff.mpr ht)) hi, reloadOf_eq_none hp, raise_of_ready hr]

section Issue

variable {p : Nat} (hr : s.Ready) (hn : sel.toNat = n.val) (ht : tickType ∈ s.cfg.tickTypes)
  (hi : s.timers[n].inited = true) (hp : p = ticks.toNat * tickType.toNat) (hpos : 1 ≤ p) (hle : p ≤ 65535)

include hr hn ht hi hp hpos hle

/-- The issue step up to its `FgCheck()`. -/
theorem exec_gptBusyWait :
    exec (.gptBusyWait sel tickType ticks) s =
      .next (fgCheck (s.waitOn n (BitVec.ofNat 16 (p - 1)) (waitingTimer p s.timers[n]))) := by
  subst hp
  have hexec : exec (.gptBusyWait sel tickType ticks) s = .next _ := command_of_ready hr
  rw [exec_of_checked hexec hn (check?_eq_some.mpr (tickTypeOk_iff.mpr ht)) hi, reloadOf_eq_some hpos hle]
  simp only [ofNat_sub_one hpos]
  rfl

theorem exec_gptBusyWait_waits (hne : s.timers[n].cnt.toNat ≠ p - 1) :
    exec (.gptBusyWait sel tickType ticks) s =
      .next (s.waitOn n (BitVec.ofNat 16 (p - 1)) (waitingTimer p s.timers[n])) := by
  have htarget : (waitingTimer p s.timers[n]).cnt ≠ BitVec.ofNat 16 (p - 1) := by
    show s.timers[n].cnt ≠ _
    bv_omega
  rw [exec_gptBusyWait hr hn ht hi hp hpos hle, fgCheck_waitOn hr.1.2, if_neg htarget]

theorem exec_gptBusyWait_atOnce (heq : s.timers[n].cnt.toNat = p - 1) :
    exec (.gptBusyWait sel tickType ticks) s = .next ((s.putTimer n { s.timers[n] with
      arr := 0, arrSh := if s.timers[n].arpe then s.timers[n].arrSh else 0, uie := false, cen := false,
      cnt := 0 }).answer .ok 0) := by
  have htarget : (waitingTimer p s.timers[n]).cnt = BitVec.ofNat 16 (p - 1) := by
    show s.timers[n].cnt = _
    bv_omega
  rw [exec_gptBusyWait hr hn ht hi hp hpos hle, fgCheck_waitOn hr.1.2, if_pos htarget, busyWaitDone_waitOn hr.2,
    completed_waitingTimer]

end Issue

end BusyWait

/-! ### The intervals (R147, R148) -/

section Interval

variable {i : Instr} {mode : IntervalMode} {sel : Byte} {tickType : Half} {ticks cb : Word} {n : Fin 4} {s : State}

/-- One of the two commands that arm an interval, with the mode it stores. -/
def SetsInterval (i : Instr) (mode : IntervalMode) (sel : Byte) (tickType : Half) (ticks cb : Word) : Prop :=
  (mode = .singleShot ∧ i = .gptSetIntervalSingle sel tickType ticks cb) ∨
    (mode = .periodic ∧ i = .gptSetIntervalPeriodic sel tickType ticks cb)

theorem exec_of_setsInterval (hm : SetsInterval i mode sel tickType ticks cb) (hr : s.Ready) :
    exec i s = .next (armInterval mode sel tickType ticks cb s) := by
  obtain ⟨rfl, rfl⟩ | ⟨rfl, rfl⟩ := hm <;> exact command_of_ready hr

theorem armTimer_eq (p : Half) (mode : IntervalMode) (cb : Word) (t : Timer) :
    armTimer p mode cb t = { t with
      arr := p, arrSh := if t.arpe then t.arrSh else p, uie := true, cen := true, slot := some ⟨mode, cb⟩ } := by
  cases h : t.arpe <;> simp [armTimer, writeArr, h]

theorem gptGuarded_of_setsInterval (hm : SetsInterval i mode sel tickType ticks cb) (hr : s.Ready) :
    GptGuarded i sel (tickType ∈ s.cfg.tickTypes ∧ cb ≠ 0) s :=
  gptGuarded_of_checked hr (exec_of_setsInterval hm hr)
    (by rw [isSome_both?, isSome_check?, isSome_check?, tickTypeOk_iff, handleOk_iff])

theorem setsInterval_params (ht : tickType ∈ s.cfg.tickTypes) (hcb : cb ≠ 0) :
    both? (check? (tickTypeOk s.cfg tickType)) (check? (handleOk cb)) = some ((), ()) := by
  rw [check?_eq_some.mpr (tickTypeOk_iff.mpr ht), check?_eq_some.mpr (handleOk_iff.mpr hcb), both?_some_some]

section Arm

variable (hm : SetsInterval i mode sel tickType ticks cb) (hr : s.Ready) (hn : sel.toNat = n.val)
  (ht : tickType ∈ s.cfg.tickTypes) (hcb : cb ≠ 0) (hi : s.timers[n].inited = true)

include hm hr hn ht hcb hi

theorem exec_setsInterval_reloadRange
    (hp : ticks.toNat * tickType.toNat = 0 ∨ 65535 < ticks.toNat * tickType.toNat) :
    exec i s = .next (s.raised .reloadRange) := by
  rw [exec_of_setsInterval hm hr, armInterval, gptChecked_run hn (setsInterval_params ht hcb) hi, reloadOf_eq_none hp,
    raise_of_ready hr]

variable {p : Nat} (hp : p = ticks.toNat * tickType.toNat) (hpos : 1 ≤ p) (hle : p ≤ 65535)

include hp hpos hle

theorem exec_setsInterval_stale (huif : s.timers[n].uif = true) : exec i s = .next (s.raised .staleUpdateFlag) := by
  subst hp
  have hstale : staleUpdateFlag true (timerAt n s) = true := staleUpdateFlag_eq_true.mpr ⟨rfl, huif⟩
  rw [exec_of_setsInterval hm hr, armInterval, gptChecked_run hn (setsInterval_params ht hcb) hi,
    reloadOf_eq_some hpos hle]
  simp only [if_pos hstale, raise_of_ready hr]

theorem exec_setsInterval (huif : s.timers[n].uif = false) :
    exec i s = .next ((s.putTimer n { s.timers[n] with
      arr := BitVec.ofNat 16 p, arrSh := if s.timers[n].arpe then s.timers[n].arrSh else BitVec.ofNat 16 p,
      uie := true, cen := true, slot := some { mode := mode, cb := cb } }).answer .ok 0) := by
  subst hp
  have hstale : ¬ staleUpdateFlag true (timerAt n s) = true := by
    rw [staleUpdateFlag_eq_true, timerAt_def, huif]
    nofun
  rw [exec_of_setsInterval hm hr, armInterval, gptChecked_run hn (setsInterval_params ht hcb) hi,
    reloadOf_eq_some hpos hle]
  simp only [if_neg hstale, respondOk_modifyTimer, armTimer_eq]

end Arm

end Interval

end Sys2Proof.Machine
end

section
/-! The statements of 41_gpt_interval.md about one step (R141 to R148). -/

namespace Sys2Proof.Machine

/-- Settles O29: every branch of the count that is no expiry. -/
theorem gptTickCounts : Obligations.GptTickCounts := by
  intro s sel n hlive hn
  refine ⟨fun hcen => ?_, fun hcen hdir => ?_, fun hcen hdir hsh => ?_, fun hcen hdir hsh hlt => ?_,
    fun hcen hdir hlt => ?_, fun hcen hdir hsh hne => ?_⟩
  · rw [exec_gptTick hlive hn, gptCount_stopped hcen]
  · exact exec_gptTick_raise hlive hn (gptCount_center hcen hdir)
  · exact exec_gptTick_raise hlive hn (gptCount_zeroReload hcen hdir hsh)
  · exact exec_gptTick_raise hlive hn (gptCount_aboveReload hcen hdir hsh hlt)
  · rw [exec_gptTick hlive hn, gptCount_up hcen hdir hlt]
    rfl
  · rw [exec_gptTick hlive hn, gptCount_down hcen hdir hsh hne]
    rfl

/-- Settles O30: the shadow is the one the update event leaves; the rest is the handler's branch for the slot. -/
theorem gptTickExpires : Obligations.GptTickExpires := by
  intro s sel n wrapped hlive hn hcen hsh hexp
  exact ⟨reloadedShadow n s, reloadedShadow_cases n s,
    exec_gptTick_expires_quiet hlive hn hcen hsh hexp,
    exec_gptTick_expires_empty hlive hn hcen hsh hexp,
    fun _ => exec_gptTick_expires_singleShot hlive hn hcen hsh hexp,
    fun _ => exec_gptTick_expires_periodic hlive hn hcen hsh hexp⟩

/-- Settles O31: behind the checks and the range of the product, the check of the foreground decides between waiting and
completing at once. -/
theorem gptBusyWaitIssue : Obligations.GptBusyWaitIssue := by
  intro s sel tickType ticks hr
  have hexec : exec (.gptBusyWait sel tickType ticks) s = .next _ := command_of_ready hr
  exact ⟨gptGuarded_of_checked hr hexec (isSome_check?.trans tickTypeOk_iff).symm, fun n p hn ht hi hp =>
    ⟨fun hrange => exec_gptBusyWait_reloadRange hr hn ht hi (hp ▸ hrange),
     exec_gptBusyWait_waits hr hn ht hi hp, exec_gptBusyWait_atOnce hr hn ht hi hp⟩⟩

/-- Settles O32: both commands are `armInterval` with their mode. -/
theorem gptSetIntervalArmsTheTimer : Obligations.GptSetIntervalArmsTheTimer := by
  intro s sel tickType ticks cb mode i hr hm
  exact ⟨gptGuarded_of_setsInterval hm hr, fun n p hn ht hcb hi hp =>
    ⟨fun hrange => exec_setsInterval_reloadRange hm hr hn ht hcb hi (hp ▸ hrange),
     exec_setsInterval_stale hm hr hn ht hcb hi hp, exec_setsInterval hm hr hn ht hcb hi hp⟩⟩

end Sys2Proof.Machine
end

section
/-! Runs of GPT_TICK on a counting timer (41_gpt_interval.md R141 to R150): ticks that only count, a busy-wait whose
shadow lies below its target (70_reset_and_hazards.md R316, R319; log 22), and an armed interval. -/

namespace Sys2Proof.Machine

/-! ### Repeating an event -/

section Repeat

variable {i : Instr} {k m : Nat} {s t u : State}

theorem execTimes_succ_last (h : execTimes i k s = .next t) (hi : exec i t = .next u) :
    execTimes i (k + 1) s = .next u := by
  rw [execTimes_add h, execTimes_succ_of_next (k := 0) hi, execTimes_zero]

/-- What every copy of the event keeps holds after any number of them. -/
theorem execTimes_invariant {P : State → Prop} (hstep : ∀ s, P s → ∃ t, exec i s = .next t ∧ P t) (h : P s) (k : Nat) :
    ∃ u, execTimes i k s = .next u ∧ P u := by
  induction k with
  | zero => exact ⟨s, rfl, h⟩
  | succ k ih =>
    obtain ⟨t, hrun, ht⟩ := ih
    obtain ⟨u, hlast, hu⟩ := hstep t ht
    exact ⟨u, execTimes_succ_last hrun hlast, hu⟩

theorem execTimes_fixed (h : exec i s = .next s) (k : Nat) : execTimes i k s = .next s := by
  induction k with
  | zero => rfl
  | succ k ih => rw [execTimes_succ_of_next h, ih]

/-- `k` copies of the event lead from `s` to `t`; on the way the foreground stays and nothing is emitted. -/
structure QuietRun (i : Instr) (k : Nat) (s t : State) : Prop where
  run : execTimes i k s = .next t
  quiet : ∀ j ≤ k, ∃ u, execTimes i j s = .next u ∧ u.fg = s.fg ∧ u.out = s.out

theorem QuietRun.refl (i : Instr) (s : State) : QuietRun i 0 s s := by
  refine ⟨rfl, fun j hj => ?_⟩
  obtain rfl := Nat.le_zero.mp hj
  exact ⟨s, rfl, rfl, rfl⟩

theorem QuietRun.last (h : QuietRun i k s t) : t.fg = s.fg ∧ t.out = s.out := by
  obtain ⟨u, hrun, hu⟩ := h.quiet k (Nat.le_refl k)
  obtain rfl : t = u := by injection h.run.symm.trans hrun
  exact hu

theorem QuietRun.trans (hst : QuietRun i k s t) (htu : QuietRun i m t u) : QuietRun i (k + m) s u := by
  refine ⟨(execTimes_add hst.run).trans htu.run, fun j hj => ?_⟩
  by_cases hjk : j ≤ k
  · exact hst.quiet j hjk
  · obtain ⟨j, rfl⟩ := Nat.exists_eq_add_of_lt (Nat.not_le.mp hjk)
    obtain ⟨v, hrun, hfg, hout⟩ := htu.quiet (j + 1) (by omega)
    exact ⟨v, (execTimes_add hst.run).trans hrun, hfg.trans hst.last.1, hout.trans hst.last.2⟩

theorem QuietRun.snoc (h : QuietRun i k s t) (hi : exec i t = .next u) (hfg : u.fg = t.fg) (hout : u.out = t.out) :
    QuietRun i (k + 1) s u := by
  refine ⟨execTimes_succ_last h.run hi, fun j hj => ?_⟩
  by_cases hjk : j ≤ k
  · exact h.quiet j hjk
  · obtain rfl : j = k + 1 := by omega
    exact ⟨u, execTimes_succ_last h.run hi, hfg.trans h.last.1, hout.trans h.last.2⟩

end Repeat

/-! ### Ticks that only count (R141) -/

/-- The timer counts in direction `dir`. -/
structure Counting (t : Timer) (dir : CountDir) : Prop where
  cen : t.cen = true
  dir : t.dir = dir
  shadow : t.arrSh ≠ 0

theorem Counting.putCount {t : Timer} {dir : CountDir} (h : Counting t dir) (v : Half) :
    Counting { t with cnt := v } dir :=
  ⟨h.cen, h.dir, h.shadow⟩

/-- No wait of the foreground ends where timer `n` shows `v`. -/
def NotAwaited (n : Fin 4) (s : State) (v : Half) : Prop :=
  s.fg = .idle ∨ ∃ target, s.fg = .gptWait n target ∧ v ≠ target

section Counting

variable {sel : Byte} {n : Fin 4} {s : State}

theorem fgCheck_of_notAwaited (hf : s.fault = none) (h : NotAwaited n s s.timers[n].cnt) : fgCheck s = s := by
  obtain hidle | ⟨target, hfg, hne⟩ := h
  · exact fgCheck_of_idle hidle
  · rw [fgCheck_gptWait hf hfg, if_neg hne]

theorem fgCheck_putCount {v : Half} (hf : s.fault = none) (h : NotAwaited n s v) :
    fgCheck (s.putCount n v) = s.putCount n v :=
  fgCheck_of_notAwaited (n := n) hf (by rw [putCount_timer]; exact h)

theorem exec_gptTick_stopped (hr : s.Ready) (hn : sel.toNat = n.val) (hcen : s.timers[n].cen = false) :
    exec (.gptTick sel) s = .next s := by
  rw [exec_gptTick hr.1 hn, gptCount_stopped hcen, fgCheck_of_idle hr.2]

theorem exec_gptTick_up (hs : s.Live) (hn : sel.toNat = n.val) (h : Counting s.timers[n] .up)
    (hlt : s.timers[n].cnt < s.timers[n].arrSh) :
    exec (.gptTick sel) s = .next (fgCheck (s.putCount n (s.timers[n].cnt + 1))) := by
  rw [exec_gptTick hs hn, gptCount_up h.cen h.dir hlt]

theorem exec_gptTick_down (hs : s.Live) (hn : sel.toNat = n.val) (h : Counting s.timers[n] .down)
    (hne : s.timers[n].cnt ≠ 0) : exec (.gptTick sel) s = .next (fgCheck (s.putCount n (s.timers[n].cnt - 1))) := by
  rw [exec_gptTick hs hn, gptCount_down h.cen h.dir h.shadow hne]

/-- An up-counter that shows 0 counts to `k`, as far as its shadow goes, where no wait ends on the way. -/
theorem quietRun_up (hs : s.Live) (hn : sel.toNat = n.val) (h : Counting s.timers[n] .up)
    (hcnt : s.timers[n].cnt = 0) {k : Nat} (hle : k ≤ s.timers[n].arrSh.toNat)
    (hw : ∀ v, 0 < v → v ≤ k → NotAwaited n s (BitVec.ofNat 16 v)) :
    QuietRun (.gptTick sel) k s (s.putCount n (BitVec.ofNat 16 k)) := by
  induction k with
  | zero => rw [putCount_self (v := BitVec.ofNat 16 0) hcnt]; exact .refl _ s
  | succ k ih =>
    refine (ih (by omega) fun v hv hvk => hw v hv (by omega)).snoc ?_ rfl rfl
    have hlt : BitVec.ofNat 16 k < s.timers[n].arrSh := by bv_omega
    have hsucc : BitVec.ofNat 16 k + 1 = BitVec.ofNat 16 (k + 1) := by bv_omega
    rw [exec_gptTick_up (s := s.putCount n _) hs hn] <;> rw [putCount_timer]
    · rw [putCount_putCount, hsucc, fgCheck_putCount hs.2 (hw (k + 1) (by omega) (by omega))]
    · exact h.putCount _
    · exact hlt

/-- A down-counter counts to 0, where no wait ends on the way. -/
theorem quietRun_down (hs : s.Live) (hn : sel.toNat = n.val) (h : Counting s.timers[n] .down) {c : Nat}
    (hcnt : s.timers[n].cnt.toNat = c) (hw : ∀ v < s.timers[n].cnt, NotAwaited n s v) :
    QuietRun (.gptTick sel) c s (s.putCount n 0) := by
  induction c generalizing s with
  | zero =>
    have h0 : s.timers[n].cnt = 0 := by bv_omega
    rw [putCount_self h0]
    exact .refl _ s
  | succ c ih =>
    have hne : s.timers[n].cnt ≠ 0 := by bv_omega
    have hlt : s.timers[n].cnt - 1 < s.timers[n].cnt := by bv_omega
    have htick : exec (.gptTick sel) s = .next (s.putCount n (s.timers[n].cnt - 1)) := by
      rw [exec_gptTick_down hs hn h hne, fgCheck_putCount hs.2 (hw _ hlt)]
    have hrest : QuietRun (.gptTick sel) c (s.putCount n (s.timers[n].cnt - 1)) (s.putCount n 0) := by
      rw [← putCount_putCount s n (s.timers[n].cnt - 1) 0]
      refine ih hs ?_ ?_ fun v hv => ?_
      · rw [putCount_timer]; exact h.putCount _
      · rw [putCount_timer]; bv_omega
      · rw [putCount_timer] at hv; exact hw v (BitVec.lt_trans hv hlt)
    rw [Nat.add_comm]
    exact ((QuietRun.refl _ s).snoc htick rfl rfl).trans hrest

end Counting

/-! ### Ticks while a busy-wait runs (R141, R143, R145) -/

section Waiting

variable {sel : Byte} {n : Fin 4} {s : State} {target : Half} {t : Timer}

theorem exec_gptTick_waitOn_up (hs : s.Live) (hn : sel.toNat = n.val) (h : Counting t .up) (hlt : t.cnt < t.arrSh) :
    exec (.gptTick sel) (s.waitOn n target t) = .next (fgCheck (s.waitOn n target { t with cnt := t.cnt + 1 })) := by
  rw [exec_gptTick_up (s := s.waitOn n target t) hs hn] <;> rw [waitOn_timer]
  exacts [by rw [waitOn_putCount], h, hlt]

theorem exec_gptTick_waitOn_down (hs : s.Live) (hn : sel.toNat = n.val) (h : Counting t .down) (hne : t.cnt ≠ 0) :
    exec (.gptTick sel) (s.waitOn n target t) = .next (fgCheck (s.waitOn n target { t with cnt := t.cnt - 1 })) := by
  rw [exec_gptTick_down (s := s.waitOn n target t) hs hn] <;> rw [waitOn_timer]
  exacts [by rw [waitOn_putCount], h, hne]

theorem exec_gptTick_waitOn_expires {wrapped : Half} (hs : s.Live) (hn : sel.toNat = n.val) (hcen : t.cen = true)
    (hsh : t.arrSh ≠ 0) (huie : t.uie = false) (hexp : Expires t wrapped) :
    exec (.gptTick sel) (s.waitOn n target t) = .next (fgCheck (s.waitOn n target { t with
      cnt := wrapped, uif := true, arrSh := reloadedShadow n (s.waitOn n target t) })) := by
  rw [exec_gptTick_expires_quiet (s := s.waitOn n target t) (wrapped := wrapped) hs hn]
  · rw [expiredTimer, waitOn_timer, waitOn_putTimer]
  all_goals rwa [waitOn_timer]

theorem reloadedShadow_waitOn_of_held (hheld : Config.waitHoldsShadow = true) (hlt : t.arrSh < target) :
    reloadedShadow n (s.waitOn n target t) = t.arrSh := by
  rw [reloadedShadow_of_wait (target := target) rfl (by rwa [waitOn_timer]), hheld, if_pos rfl, waitOn_timer]

theorem reloadedShadow_waitOn_of_free (hfree : Config.waitHoldsShadow = false) :
    reloadedShadow n (s.waitOn n target t) = t.arr := by
  have hheld : shadowHeld n (s.waitOn n target t) = false := by
    rcases shadowHeld_cases n (s.waitOn n target t) with e | ⟨e, -⟩
    exacts [e, e.trans hfree]
  rw [reloadedShadow, hheld, if_neg Bool.false_ne_true, waitOn_timer]

theorem fgCheck_waitOn_of_ne (hs : s.Live) (hne : t.cnt ≠ target) :
    fgCheck (s.waitOn n target t) = s.waitOn n target t := by
  rw [fgCheck_waitOn hs.2, if_neg hne]

theorem fgCheck_waitOn_of_eq (hs : s.Live) (heq : t.cnt = target) :
    fgCheck (s.waitOn n target t) = busyWaitDone n (s.waitOn n target t) := by
  rw [fgCheck_waitOn hs.2, if_pos heq]

/-- A wrap of the counter that loads the reload and does not end the wait. -/
theorem exec_gptTick_waitOn_reloads {dir : CountDir} {wrapped : Half} (hfree : Config.waitHoldsShadow = false)
    (hs : s.Live) (hn : sel.toNat = n.val) (h : Counting t dir) (huie : t.uie = false) (hexp : Expires t wrapped)
    (hne : wrapped ≠ target) :
    exec (.gptTick sel) (s.waitOn n target t) =
      .next (s.waitOn n target { t with cnt := wrapped, uif := true, arrSh := t.arr }) := by
  rw [exec_gptTick_waitOn_expires hs hn h.cen h.shadow huie hexp, reloadedShadow_waitOn_of_free hfree,
    fgCheck_waitOn_of_ne hs hne]

theorem quietRun_waitOn_up (hs : s.Live) (hn : sel.toNat = n.val) (h : Counting t .up) (hcnt : t.cnt = 0) {k : Nat}
    (hle : k ≤ t.arrSh.toNat) (hlt : k < target.toNat) :
    QuietRun (.gptTick sel) k (s.waitOn n target t) (s.waitOn n target { t with cnt := BitVec.ofNat 16 k }) := by
  rw [← waitOn_putCount s n target t (BitVec.ofNat 16 k)]
  exact quietRun_up (s := s.waitOn n target t) hs hn (by rwa [waitOn_timer]) (by rwa [waitOn_timer])
    (by rwa [waitOn_timer]) fun v _ hvk => .inr ⟨target, rfl, by bv_omega⟩

theorem quietRun_waitOn_down (hs : s.Live) (hn : sel.toNat = n.val) (h : Counting t .down) (hle : t.cnt ≤ target) :
    QuietRun (.gptTick sel) t.cnt.toNat (s.waitOn n target t) (s.waitOn n target { t with cnt := 0 }) := by
  rw [← waitOn_putCount s n target t 0]
  refine quietRun_down (s := s.waitOn n target t) hs hn ?_ ?_ fun v hv => .inr ⟨target, rfl, ?_⟩
  · rwa [waitOn_timer]
  · rw [waitOn_timer]
  · rw [waitOn_timer] at hv
    bv_omega

/-- An up-count from 0 to the target of product `p`, as far as the tick before the last. -/
theorem quietRun_waitOn_up_to_target {p : Nat} (hs : s.Live) (hn : sel.toNat = n.val) (h : Counting t .up)
    (hcnt : t.cnt = 0) (hle : p ≤ 65535) (hsh : t.arrSh.toNat = p) {k : Nat} (hk : k < p - 1) :
    QuietRun (.gptTick sel) k (s.waitOn n (BitVec.ofNat 16 (p - 1)) t)
      (s.waitOn n (BitVec.ofNat 16 (p - 1)) { t with cnt := BitVec.ofNat 16 k }) :=
  quietRun_waitOn_up hs hn h hcnt (by omega) (by rw [BitVec.toNat_ofNat]; omega)

theorem exec_gptTick_waitOn_up_reaches {p : Nat} (hs : s.Live) (hn : sel.toNat = n.val) (h : Counting t .up)
    (hpos : 2 ≤ p) (hle : p ≤ 65535) (hsh : t.arrSh.toNat = p) :
    exec (.gptTick sel) (s.waitOn n (BitVec.ofNat 16 (p - 1)) { t with cnt := BitVec.ofNat 16 (p - 2) }) =
      .next (busyWaitDone n (s.waitOn n (BitVec.ofNat 16 (p - 1)) { t with cnt := BitVec.ofNat 16 (p - 1) })) := by
  have hdone : BitVec.ofNat 16 (p - 2) + 1 = BitVec.ofNat 16 (p - 1) := by bv_omega
  rw [exec_gptTick_waitOn_up hs hn (h.putCount _) (by bv_omega), fgCheck_waitOn_of_eq hs hdone]
  simp only [hdone]

end Waiting

/-! ### A busy-wait whose shadow lies below its target (70_reset_and_hazards.md R316, R319; log 22) -/

/-- The timer of a running busy-wait of product `p` whose shadow and count lie below the target. -/
structure ShadowWait (p : Nat) (t : Timer) : Prop where
  cen : t.cen = true
  uie : t.uie = false
  arr : t.arr = BitVec.ofNat 16 p
  range : p ≤ 65535
  shadow : t.arrSh ≠ 0
  shadow_lt : t.arrSh.toNat < p - 1
  count_lt : t.cnt.toNat < p - 1
  dir : (t.dir = .up ∧ t.cnt ≤ t.arrSh) ∨ t.dir = .down

section ShadowWait

variable {sel : Byte} {n : Fin 4} {s : State} {p : Nat} {t : Timer}

/-- While the shadow is held the counter goes round below the target. -/
theorem ShadowWait.tick_of_held (h : ShadowWait p t) (hheld : Config.waitHoldsShadow = true) (hs : s.Live)
    (hn : sel.toNat = n.val) :
    ∃ u, exec (.gptTick sel) (s.waitOn n (BitVec.ofNat 16 (p - 1)) t) =
      .next (s.waitOn n (BitVec.ofNat 16 (p - 1)) u) ∧ ShadowWait p u := by
  obtain ⟨hcen, huie, harr, hrange, hsh, hshlt, hcntlt, hdir⟩ := h
  have settled {u : Timer} (hu : u.cnt.toNat < p - 1) :
      fgCheck (s.waitOn n (BitVec.ofNat 16 (p - 1)) u) = s.waitOn n (BitVec.ofNat 16 (p - 1)) u :=
    fgCheck_waitOn_of_ne hs (by bv_omega)
  have wraps {wrapped : Half} (hexp : Expires t wrapped) (hw : wrapped.toNat < p - 1) :
      exec (.gptTick sel) (s.waitOn n (BitVec.ofNat 16 (p - 1)) t) =
        .next (s.waitOn n (BitVec.ofNat 16 (p - 1)) { t with cnt := wrapped, uif := true }) := by
    rw [exec_gptTick_waitOn_expires hs hn hcen hsh huie hexp, settled hw,
      reloadedShadow_waitOn_of_held hheld (by bv_omega)]
  obtain ⟨hup, hle⟩ | hdown := hdir
  · by_cases hwrap : t.cnt = t.arrSh
    · have hpos : 0 < p - 1 := Nat.zero_lt_of_lt hshlt
      have hzero : (0 : Half) ≤ t.arrSh := by bv_omega
      exact ⟨_, wraps (.inl ⟨hup, hwrap, rfl⟩) hpos, hcen, huie, harr, hrange, hsh, hshlt, hpos, .inl ⟨hup, hzero⟩⟩
    · have hlt : t.cnt < t.arrSh := by bv_omega
      have hnext : (t.cnt + 1).toNat < p - 1 := by bv_omega
      have hnextle : t.cnt + 1 ≤ t.arrSh := by bv_omega
      refine ⟨{ t with cnt := t.cnt + 1 }, ?_, hcen, huie, harr, hrange, hsh, hshlt, hnext, .inl ⟨hup, hnextle⟩⟩
      rw [exec_gptTick_waitOn_up hs hn ⟨hcen, hup, hsh⟩ hlt, settled hnext]
  · by_cases hwrap : t.cnt = 0
    · exact ⟨_, wraps (.inr ⟨hdown, hwrap, rfl⟩) hshlt, hcen, huie, harr, hrange, hsh, hshlt, hshlt, .inr hdown⟩
    · have hnext : (t.cnt - 1).toNat < p - 1 := by bv_omega
      refine ⟨{ t with cnt := t.cnt - 1 }, ?_, hcen, huie, harr, hrange, hsh, hshlt, hnext, .inr hdown⟩
      rw [exec_gptTick_waitOn_down hs hn ⟨hcen, hdown, hsh⟩ hwrap, settled hnext]

/-- `v` is `s` but for a busy-wait on timer `n` that has not ended. -/
def Spinning (n : Fin 4) (p : Nat) (s v : State) : Prop :=
  ∃ u, v = s.waitOn n (BitVec.ofNat 16 (p - 1)) u ∧ ShadowWait p u

theorem ShadowWait.spins_of_held (h : ShadowWait p t) (hheld : Config.waitHoldsShadow = true) (hs : s.Live)
    (hn : sel.toNat = n.val) (k : Nat) :
    ∃ u, execTimes (.gptTick sel) k (s.waitOn n (BitVec.ofNat 16 (p - 1)) t) = .next u ∧
      u.fg = .gptWait n (BitVec.ofNat 16 (p - 1)) ∧ u.out = s.out := by
  have hround (v : State) (hv : Spinning n p s v) : ∃ w, exec (.gptTick sel) v = .next w ∧ Spinning n p s w := by
    obtain ⟨u, rfl, hu⟩ := hv
    obtain ⟨u', htick, hu'⟩ := hu.tick_of_held hheld hs hn
    exact ⟨_, htick, u', rfl, hu'⟩
  obtain ⟨_, hrun, u, rfl, -⟩ := execTimes_invariant hround ⟨t, rfl, h⟩ k
  exact ⟨_, hrun, rfl, rfl⟩

/-- The wait ends on tick `last`, with the reload in the shadow, and up to that tick goes by quietly. -/
def WaitEnds (sel : Byte) (n : Fin 4) (s : State) (p last : Nat) (t : Timer) : Prop :=
  ∃ v, QuietRun (.gptTick sel) (last - 1) (s.waitOn n (BitVec.ofNat 16 (p - 1)) t) v ∧
    exec (.gptTick sel) v = .next (busyWaitDone n (s.waitOn n (BitVec.ofNat 16 (p - 1))
      { t with cnt := BitVec.ofNat 16 (p - 1), uif := true, arrSh := t.arr }))

/-- Up: the first period is the shadow's, the second counts to the target. -/
theorem ShadowWait.ends_up (h : ShadowWait p t) (hfree : Config.waitHoldsShadow = false) (hs : s.Live)
    (hn : sel.toNat = n.val) (hup : t.dir = .up) (hcnt : t.cnt = 0) :
    WaitEnds sel n s p (t.arrSh.toNat + p) t := by
  obtain ⟨hcen, huie, harr, hrange, hsh, hshlt, -, -⟩ := h
  have harr : t.arr.toNat = p := by rw [harr, BitVec.toNat_ofNat]; omega
  have htarget : (BitVec.ofNat 16 (p - 1)).toNat = p - 1 := by rw [BitVec.toNat_ofNat]; omega
  have hstart : Counting t .up := ⟨hcen, hup, hsh⟩
  have hfirst := quietRun_waitOn_up (target := BitVec.ofNat 16 (p - 1)) hs hn hstart hcnt
    (Nat.le_refl t.arrSh.toNat) (hshlt.trans_eq htarget.symm)
  rw [BitVec.ofNat_toNat, BitVec.setWidth_eq] at hfirst
  have hexp : Expires { t with cnt := t.arrSh } 0 := .inl ⟨hup, rfl, rfl⟩
  have hwrap := exec_gptTick_waitOn_reloads (target := BitVec.ofNat 16 (p - 1)) hfree hs hn (hstart.putCount t.arrSh)
    huie hexp (by bv_omega)
  have hreloaded : Counting { t with cnt := 0, uif := true, arrSh := t.arr } .up := ⟨hcen, hup, by bv_omega⟩
  have hsecond := quietRun_waitOn_up_to_target (k := p - 2) hs hn hreloaded rfl hrange harr (by omega)
  have hlast : t.arrSh.toNat + p - 1 = t.arrSh.toNat + 1 + (p - 2) := by omega
  exact ⟨_, hlast ▸ (hfirst.snoc hwrap rfl rfl).trans hsecond,
    exec_gptTick_waitOn_up_reaches hs hn hreloaded (by omega) hrange harr⟩

/-- Down: the count, then the shadow's period, then one tick down from the reload to the target. -/
theorem ShadowWait.ends_down (h : ShadowWait p t) (hfree : Config.waitHoldsShadow = false) (hs : s.Live)
    (hn : sel.toNat = n.val) (hdown : t.dir = .down) :
    WaitEnds sel n s p (t.cnt.toNat + t.arrSh.toNat + 3) t := by
  obtain ⟨hcen, huie, harr, hrange, hsh, hshlt, hcntlt, -⟩ := h
  have harr : t.arr.toNat = p := by rw [harr, BitVec.toNat_ofNat]; omega
  have hstart : Counting t .down := ⟨hcen, hdown, hsh⟩
  have hfirst := quietRun_waitOn_down (target := BitVec.ofNat 16 (p - 1)) hs hn hstart (by bv_omega)
  have hexp : Expires { t with cnt := 0 } t.arrSh := .inr ⟨hdown, rfl, rfl⟩
  have hwrap := exec_gptTick_waitOn_reloads (target := BitVec.ofNat 16 (p - 1)) hfree hs hn (hstart.putCount 0) huie
    hexp (by bv_omega)
  have hreloaded : Counting { t with cnt := t.arrSh, uif := true, arrSh := t.arr } .down := ⟨hcen, hdown, by bv_omega⟩
  have hsecond := quietRun_waitOn_down (target := BitVec.ofNat 16 (p - 1)) hs hn hreloaded (by bv_omega)
  have hexpReload : Expires { t with cnt := 0, uif := true, arrSh := t.arr } t.arr := .inr ⟨hdown, rfl, rfl⟩
  have hwrapReload := exec_gptTick_waitOn_reloads (target := BitVec.ofNat 16 (p - 1)) hfree hs hn (hreloaded.putCount 0)
    huie hexpReload (by bv_omega)
  have hlast : t.cnt.toNat + t.arrSh.toNat + 3 - 1 = t.cnt.toNat + 1 + t.arrSh.toNat + 1 := by omega
  have hdone : t.arr - 1 = BitVec.ofNat 16 (p - 1) := by bv_omega
  refine ⟨_, hlast ▸ ((hfirst.snoc hwrap rfl rfl).trans hsecond).snoc hwrapReload rfl rfl, ?_⟩
  rw [exec_gptTick_waitOn_down hs hn (hreloaded.putCount _) (by bv_omega), fgCheck_waitOn_of_eq hs hdone]
  simp only [hdone]

end ShadowWait

/-! ### The timer of a busy-wait, when it is issued and when it ends (R145, R146) -/

section WaitingTimer

variable {sel : Byte} {n : Fin 4} {s : State} {p : Nat} {t : Timer}

theorem waitingTimer_arrSh_of_buffered (harpe : t.arpe = true) : (waitingTimer p t).arrSh = t.arrSh := if_pos harpe

theorem waitingTimer_arrSh_of_unbuffered (harpe : t.arpe = false) : (waitingTimer p t).arrSh = BitVec.ofNat 16 p :=
  if_neg (Bool.eq_false_iff.mp harpe)

theorem shadowWait_waitingTimer (harpe : t.arpe = true) (hle : p ≤ 65535) (hpos : 1 ≤ t.arrSh.toNat)
    (hlt : t.arrSh.toNat < p - 1) (hcnt : t.cnt.toNat < p - 1)
    (hdir : (t.dir = .up ∧ t.cnt ≤ t.arrSh) ∨ t.dir = .down) : ShadowWait p (waitingTimer p t) := by
  have hsh : (waitingTimer p t).arrSh = t.arrSh := waitingTimer_arrSh_of_buffered harpe
  have hne : t.arrSh ≠ 0 := by bv_omega
  exact ⟨rfl, rfl, rfl, hle, hsh ▸ hne, hsh ▸ hlt, hcnt, hsh ▸ hdir⟩

/-- An unbuffered up-count from 0 passes the counts below the target and completes at it (R146, R323). -/
theorem execTimes_unbufferedWait (hr : s.Ready) (hn : sel.toNat = n.val) (hdir : t.dir = .up) (harpe : t.arpe = false)
    (hcnt : t.cnt = 0) (hpos : 2 ≤ p) (hle : p ≤ 65535) :
    (∀ k < p - 1, QuietRun (.gptTick sel) k (s.waitOn n (BitVec.ofNat 16 (p - 1)) (waitingTimer p t))
      (s.waitOn n (BitVec.ofNat 16 (p - 1)) { waitingTimer p t with cnt := BitVec.ofNat 16 k })) ∧
    execTimes (.gptTick sel) (p - 1) (s.waitOn n (BitVec.ofNat 16 (p - 1)) (waitingTimer p t)) =
      .next ((s.putTimer n { t with arr := 0, arrSh := 0, uie := false, cen := false, cnt := 0 }).answer .ok 0) := by
  have hsh : (waitingTimer p t).arrSh.toNat = p := by
    rw [waitingTimer_arrSh_of_unbuffered harpe, BitVec.toNat_ofNat]
    omega
  have hcounting : Counting (waitingTimer p t) .up := ⟨rfl, hdir, by bv_omega⟩
  have hquiet (k : Nat) (hk : k < p - 1) :=
    quietRun_waitOn_up_to_target hr.1 hn hcounting hcnt hle hsh hk
  refine ⟨hquiet, ?_⟩
  have hlast : p - 1 = p - 2 + 1 := by omega
  have hrun := execTimes_succ_last (hquiet (p - 2) (by omega)).run
    (exec_gptTick_waitOn_up_reaches hr.1 hn hcounting hpos hle hsh)
  rw [← hlast, busyWaitDone_waitOn hr.2] at hrun
  rw [hrun]
  simp only [writeArr, waitingTimer, harpe, Bool.false_eq_true, if_false]

/-- A buffered wait that ends leaves the reload in the shadow (R143, R146). -/
theorem execTimes_of_waitEnds {last : Nat} (hr : s.Ready) (harpe : t.arpe = true) (hpos : 1 ≤ last)
    (h : WaitEnds sel n s p last (waitingTimer p t)) :
    execTimes (.gptTick sel) last (s.waitOn n (BitVec.ofNat 16 (p - 1)) (waitingTimer p t)) =
      .next ((s.putTimer n { t with
        arr := 0, arrSh := BitVec.ofNat 16 p, uif := true, uie := false, cen := false, cnt := 0 }).answer .ok 0) := by
  obtain ⟨v, hquiet, hdone⟩ := h
  have hrun := execTimes_succ_last hquiet.run hdone
  rw [Nat.sub_add_cancel hpos, busyWaitDone_waitOn hr.2] at hrun
  rw [hrun]
  simp only [writeArr, waitingTimer, harpe, if_true]

end WaitingTimer

/-! ### An armed interval on an unbuffered up-counter that shows 0 (R147, R148) -/

/-- An idle block whose timer `n` has just been armed with product `p`, or has just served a periodic callback. -/
structure ArmedInterval (n : Fin 4) (p : Nat) (mode : IntervalMode) (cb : Word) (s : State) : Prop where
  ready : s.Ready
  counting : Counting s.timers[n] .up
  arpe : s.timers[n].arpe = false
  uie : s.timers[n].uie = true
  uif : s.timers[n].uif = false
  arr : s.timers[n].arr = BitVec.ofNat 16 p
  arrSh : s.timers[n].arrSh = BitVec.ofNat 16 p
  cnt : s.timers[n].cnt = 0
  slot : s.timers[n].slot = some ⟨mode, cb⟩
  range : p ≤ 65535

section Armed

variable {sel : Byte} {n : Fin 4} {p : Nat} {mode : IntervalMode} {cb : Word} {s : State}

theorem ArmedInterval.putOut (h : ArmedInterval n p mode cb s) (records : List Record) :
    ArmedInterval n p mode cb { s with out := records } :=
  ⟨h.ready, h.counting, h.arpe, h.uie, h.uif, h.arr, h.arrSh, h.cnt, h.slot, h.range⟩

theorem ArmedInterval.counts (h : ArmedInterval n p mode cb s) (hn : sel.toNat = n.val) {k : Nat} (hk : k ≤ p) :
    QuietRun (.gptTick sel) k s (s.putCount n (BitVec.ofNat 16 k)) := by
  have hle : k ≤ s.timers[n].arrSh.toNat := by
    have := h.range
    rw [h.arrSh, BitVec.toNat_ofNat]
    omega
  exact quietRun_up h.ready.1 hn h.counting h.cnt hle fun _ _ _ => .inl h.ready.2

/-- On tick `p + 1` the counter shows 0 again and the handler is entered (R143). -/
theorem ArmedInterval.fires (h : ArmedInterval n p mode cb s) (hn : sel.toNat = n.val) :
    execTimes (.gptTick sel) (p + 1) s =
      .next (fgCheck (gptHandler n (s.putTimer n { s.timers[n] with uif := true }))) := by
  have hexp : Expires { s.timers[n] with cnt := BitVec.ofNat 16 p } 0 := .inl ⟨h.counting.dir, h.arrSh.symm, rfl⟩
  have hshadow : reloadedShadow n s = s.timers[n].arrSh :=
    (reloadedShadow_of_eq (h.arrSh.trans h.arr.symm)).trans (h.arr.trans h.arrSh.symm)
  have hexpired : expiredTimer n (s.putCount n (BitVec.ofNat 16 p)) 0 = { s.timers[n] with uif := true } := by
    rw [expiredTimer, reloadedShadow_putCount, hshadow, putCount_timer, ← h.cnt]
  have htick : exec (.gptTick sel) (s.putCount n (BitVec.ofNat 16 p)) = .next _ :=
    exec_gptTick_expires (s := s.putCount n _) h.ready.1 hn (by rw [putCount_timer]; exact h.counting.cen)
      (by rw [putCount_timer]; exact h.counting.shadow) (by rw [putCount_timer]; exact hexp)
  rw [execTimes_succ_last (h.counts hn (Nat.le_refl p)).run htick, hexpired, putCount_timer, if_pos h.uie,
    State.putCount, putTimer_putTimer]

/-- A single shot invokes its callback and stops the timer (R144). -/
theorem ArmedInterval.fires_singleShot (h : ArmedInterval n p .singleShot cb s) (hn : sel.toNat = n.val) :
    execTimes (.gptTick sel) (p + 1) s =
      .next { s.putTimer n { s.timers[n] with
          arr := 0, arrSh := 0, uie := false, uif := false, cen := false } with
        out := s.out ++ [.callback .gpt n.val cb] } := by
  rw [h.fires hn, gptHandler_singleShot (cb := cb) (by rw [putTimer_getElem_same]; exact h.slot),
    fgCheck_of_idle (by exact h.ready.2), putTimer_getElem_same, putTimer_putTimer]
  simp only [h.arpe, Bool.false_eq_true, if_false]
  rfl

/-- A periodic interval invokes its callback and is armed as before (R144). -/
theorem ArmedInterval.fires_periodic (h : ArmedInterval n p .periodic cb s) (hn : sel.toNat = n.val) :
    execTimes (.gptTick sel) (p + 1) s = .next { s with out := s.out ++ [.callback .gpt n.val cb] } := by
  have hcleared : { s.timers[n] with uif := false } = s.timers[n] := by rw [← h.uif]
  rw [h.fires hn, gptHandler_periodic (cb := cb) (by rw [putTimer_getElem_same]; exact h.slot),
    fgCheck_of_idle (by exact h.ready.2), putTimer_getElem_same, putTimer_putTimer]
  dsimp only
  rw [hcleared, putTimer_self]
  rfl

/-- `m` periods of a periodic interval leave the state but for the callbacks (R150 (b)). -/
theorem ArmedInterval.periods (h : ArmedInterval n p .periodic cb s) (hn : sel.toNat = n.val) (m : Nat) :
    execTimes (.gptTick sel) (m * (p + 1)) s =
      .next { s with out := s.out ++ List.replicate m (.callback .gpt n.val cb) } := by
  induction m with
  | zero => simp
  | succ m ih =>
    rw [Nat.succ_mul, execTimes_add ih, (h.putOut _).fires_periodic hn, List.append_assoc,
      ← List.replicate_succ']

/-- `s` after an interval was armed on its unbuffered timer `n` (R147, R148). -/
def armedState (n : Fin 4) (p : Nat) (mode : IntervalMode) (cb : Word) (s : State) : State :=
  (s.putTimer n { s.timers[n] with
    arr := BitVec.ofNat 16 p, arrSh := BitVec.ofNat 16 p, uie := true, cen := true,
    slot := some { mode := mode, cb := cb } }).answer .ok 0

theorem armedState_timer (n : Fin 4) (p : Nat) (mode : IntervalMode) (cb : Word) (s : State) :
    (armedState n p mode cb s).timers[n] = { s.timers[n] with
      arr := BitVec.ofNat 16 p, arrSh := BitVec.ofNat 16 p, uie := true, cen := true,
      slot := some { mode := mode, cb := cb } } :=
  putTimer_getElem_same s n _

theorem armedState_putTimer (n : Fin 4) (p : Nat) (mode : IntervalMode) (cb : Word) (s : State) (t : Timer) :
    (armedState n p mode cb s).putTimer n t = (s.putTimer n t).answer .ok 0 :=
  congrArg (State.answer · .ok 0) (putTimer_putTimer s n _ t)

theorem armedInterval_armedState (hr : s.Ready) (hdir : s.timers[n].dir = .up) (harpe : s.timers[n].arpe = false)
    (hcnt : s.timers[n].cnt = 0) (huif : s.timers[n].uif = false) (hpos : 1 ≤ p) (hle : p ≤ 65535) :
    ArmedInterval n p mode cb (armedState n p mode cb s) := by
  have hne : BitVec.ofNat 16 p ≠ 0 := by bv_omega
  refine ⟨hr, ?_, ?_, ?_, ?_, ?_, ?_, ?_, ?_, hle⟩ <;> rw [armedState_timer]
  exacts [⟨rfl, hdir, hne⟩, harpe, huif, hcnt]

theorem exec_setsInterval_unbuffered {i : Instr} {tickType : Half} {ticks : Word}
    (hm : SetsInterval i mode sel tickType ticks cb) (hr : s.Ready) (hn : sel.toNat = n.val)
    (ht : tickType ∈ s.cfg.tickTypes) (hcb : cb ≠ 0) (hi : s.timers[n].inited = true)
    (hp : p = ticks.toNat * tickType.toNat) (hpos : 1 ≤ p) (hle : p ≤ 65535) (huif : s.timers[n].uif = false)
    (harpe : s.timers[n].arpe = false) : exec i s = .next (armedState n p mode cb s) := by
  rw [exec_setsInterval hm hr hn ht hcb hi hp hpos hle huif, if_neg (Bool.eq_false_iff.mp harpe)]
  rfl

end Armed

end Sys2Proof.Machine
end

section
/-! The statements of 41_gpt_interval.md about runs (R145 to R150; 70_reset_and_hazards.md R316, R319, R323). -/

namespace Sys2Proof.Machine

/-- Settles O33: an unbuffered wait counts to its target at once; a buffered one goes round below the target for good, or
runs through the shadow's period first, as the free value of log 22 says. -/
theorem busyWaitLastsOneTickLessThanItsProduct : Obligations.BusyWaitLastsOneTickLessThanItsProduct := by
  intro s sel tickType ticks n p hr hn ht hp hpos hle hi
  refine ⟨fun hdir harpe hcnt => ?unbuffered, fun old last harpe hold hpos' hlt hstart => ?buffered⟩
  case unbuffered =>
    have hcnt0 : s.timers[n].cnt.toNat = 0 := by rw [hcnt]; rfl
    by_cases hp1 : p = 1
    · refine ⟨_, exec_gptBusyWait_atOnce hr hn ht hi hp hpos hle (by omega), fun k hk => by omega, ?_⟩
      rw [hp1, execTimes_zero, if_neg (Bool.eq_false_iff.mp harpe)]
    · obtain ⟨hquiet, hdone⟩ := execTimes_unbufferedWait hr hn hdir harpe hcnt (p := p) (by omega) hle
      refine ⟨_, exec_gptBusyWait_waits hr hn ht hi hp hpos hle (by omega),
        fun k hk => ⟨_, (hquiet k hk).run, rfl, rfl, ?_⟩, hdone⟩
      rw [waitOn_timer, BitVec.toNat_ofNat]
      omega
  case buffered =>
    subst hold
    have hwait : ShadowWait p (waitingTimer p s.timers[n]) := by
      obtain ⟨hup, hcnt, -⟩ | ⟨hdown, hcnt, -⟩ := hstart
      · exact shadowWait_waitingTimer harpe hle hpos' hlt (by bv_omega) (.inl ⟨hup, by bv_omega⟩)
      · exact shadowWait_waitingTimer harpe hle hpos' hlt hcnt (.inr hdown)
    have hne : s.timers[n].cnt.toNat ≠ p - 1 := hwait.count_lt.ne
    refine ⟨_, exec_gptBusyWait_waits hr hn ht hi hp hpos hle hne, ?_⟩
    cases hheld : Config.waitHoldsShadow with
    | true =>
      have hspins := hwait.spins_of_held hheld hr.1 hn
      exact ⟨fun k _ => hspins k, .inl hspins⟩
    | false =>
      have hsh := waitingTimer_arrSh_of_buffered (p := p) harpe
      have hends : WaitEnds sel n s p last (waitingTimer p s.timers[n]) := by
        obtain ⟨hup, hcnt, rfl⟩ | ⟨hdown, -, rfl⟩ := hstart
        · exact hsh ▸ hwait.ends_up hheld hr.1 hn hup hcnt
        · exact hsh ▸ hwait.ends_down hheld hr.1 hn hdown
      have hlast : 1 ≤ last := by omega
      refine ⟨fun k hk => ?_, .inr (execTimes_of_waitEnds hr harpe hlast hends)⟩
      obtain ⟨v, hquiet, -⟩ := hends
      exact hquiet.quiet k (by omega)

/-- Settles O34: `p` ticks count, the next fires, and a stopped timer stays as it is. -/
theorem singleShotFiresExactlyOnce : Obligations.SingleShotFiresExactlyOnce := by
  intro s sel tickType ticks cb n p hr hn ht hcb hp hpos hle hi hdir harpe hcnt huif
  have harmed : ArmedInterval n p .singleShot cb (armedState n p .singleShot cb s) :=
    armedInterval_armedState hr hdir harpe hcnt huif hpos hle
  refine ⟨_, exec_setsInterval_unbuffered (.inl ⟨rfl, rfl⟩) hr hn ht hcb hi hp hpos hle huif harpe, fun k hk => ?_,
    fun k => ?_⟩
  · exact ⟨_, (harmed.counts hn hk).run, rfl⟩
  · have hstopped {u : Timer} (hcen : u.cen = false) {records : List Record} :
        exec (.gptTick sel) { (armedState n p .singleShot cb s).putTimer n u with out := records } = .next _ :=
      exec_gptTick_stopped harmed.ready hn (by rw [putTimer_getElem_same]; exact hcen)
    rw [execTimes_add (harmed.fires_singleShot hn), execTimes_fixed (hstopped rfl), armedState_timer,
      armedState_putTimer]
    simp only [armedState, State.answer, List.append_assoc, huif, hcnt]
    rfl

/-- Settles O35: after `m` whole periods the interval is armed as it was, and counts on. -/
theorem periodicFiresEveryPeriod : Obligations.PeriodicFiresEveryPeriod := by
  intro s sel tickType ticks cb n p hr hn ht hcb hp hpos hle hi hdir harpe hcnt huif
  have harmed : ArmedInterval n p .periodic cb (armedState n p .periodic cb s) :=
    armedInterval_armedState hr hdir harpe hcnt huif hpos hle
  refine ⟨_, exec_setsInterval_unbuffered (.inr ⟨rfl, rfl⟩) hr hn ht hcb hi hp hpos hle huif harpe, rfl,
    fun m k hk => ?_⟩
  rw [execTimes_add (harmed.periods hn m), ((harmed.putOut _).counts hn hk).run]
  rfl

end Sys2Proof.Machine
end

section
/-! The PWM commands in a ready block: their operand codes (30_encoding.md R85, R86), the compare value, and writes of one
channel (42_gpt_pwm.md R170 to R172). -/

namespace Sys2Proof.Machine

/-! ### The operand codes -/

theorem isSome_channelIndex? {c : Nat} : (channelIndex? c).isSome = true ↔ 1 ≤ c ∧ c ≤ 4 := by
  simp [channelIndex?]

theorem pwmMode?_eq_getElem? (m : Byte) : pwmMode? m = [CompareMode.pwmA, .pwmB][m.toNat]? := by
  unfold pwmMode?
  generalize m.toNat = code
  match code with
  | 0 | 1 | _ + 2 => rfl

theorem isSome_pwmMode? {m : Byte} : (pwmMode? m).isSome = true ↔ m.toNat ≤ 1 := by
  simp [pwmMode?_eq_getElem?]

theorem percent?_eq_some {p : Byte} (h : p.toNat ≤ 100) : percent? p = some p.toNat := if_pos h

theorem isSome_percent? {p : Byte} : (percent? p).isSome = true ↔ p.toNat ≤ 100 := by
  simp [percent?]

/-! ### The compare value (R171) -/

theorem duty_le {p : Nat} (arr : Nat) (h : p ≤ 100) : arr * p / 100 ≤ arr :=
  Nat.div_le_of_le_mul ((Nat.mul_le_mul_left arr h).trans_eq (Nat.mul_comm arr 100))

/-- Narrowing the compare value to the register's width loses nothing. -/
theorem toNat_compareValue {p : Nat} (arr : Half) (h : p ≤ 100) :
    (compareValue arr p).toNat = arr.toNat * p / 100 :=
  Nat.mod_eq_of_lt ((duty_le arr.toNat h).trans_lt arr.isLt)

theorem compareValue_zero (arr : Half) : compareValue arr 0 = 0 :=
  BitVec.eq_of_toNat_eq (by simp [toNat_compareValue])

theorem compareValue_hundred (arr : Half) : compareValue arr 100 = arr :=
  BitVec.eq_of_toNat_eq (by simp [toNat_compareValue])

theorem compareValue_le {p : Nat} (arr : Half) (h : p ≤ 100) : compareValue arr p ≤ arr := by
  rw [BitVec.le_def, toNat_compareValue arr h]
  exact duty_le arr.toNat h

theorem compareValue_mono {p q : Nat} (arr : Half) (hpq : p ≤ q) (hq : q ≤ 100) :
    compareValue arr p ≤ compareValue arr q := by
  rw [BitVec.le_def, toNat_compareValue arr (hpq.trans hq), toNat_compareValue arr hq]
  exact Nat.div_le_div_right (Nat.mul_le_mul_left _ hpq)

/-! ### Writes of one channel (10_state.md R32) -/

theorem modifyChannel_eq_putChannel (c : Fin 4) (f : Channel → Channel) (t : Timer) :
    modifyChannel c f t = t.putChannel c (f t.channels[c]) := rfl

theorem modifyChannel_putChannel (c : Fin 4) (f : Channel → Channel) (t : Timer) (x : Channel) :
    modifyChannel c f (t.putChannel c x) = t.putChannel c (f x) := by
  simp [modifyChannel, Timer.putChannel]

/-- The timer R170 leaves: `WriteARR` and the forced update load the shadow under either `ARPE`, and the two writes of the
channel are one. -/
theorem pwmInitTimer_eq (arr : Half) (c : Fin 4) (m : CompareMode) (psc : Half) (cce ccp : Bool) (t : Timer) :
    pwmInitTimer arr c m psc cce ccp t =
      { t with arr := arr, arrSh := arr, cnt := 0, arpe := true, cen := true, psc := psc }.putChannel c
        { t.channels[c] with ocm := m, cce := cce, ccp := ccp } :=
  modifyChannel_putChannel c (fun x => { x with cce := cce, ccp := ccp })
    { t with arr := arr, arrSh := arr, cnt := 0, arpe := true, cen := true, psc := psc }
    { t.channels[c] with ocm := m }

end Sys2Proof.Machine
end

section
/-! The statements of 42_gpt_pwm.md (R170 to R172). -/

namespace Sys2Proof.Machine

/-- Settles O36: the checks of R110 and R91, the raise where the interrupt is on, and else one write of the timer with the
three values drawn next. -/
theorem gptPwmInitForcesAnUpdate : Obligations.GptPwmInitForcesAnUpdate := by
  intro s sel arr channel mode freq hr
  have hexec : exec (.gptPwmInit sel arr channel mode freq) s = .next _ := command_of_ready hr
  refine ⟨gptGuarded_of_checked hr hexec ?_, fun n c m hn hc hm hinit => ?_⟩
  · rw [isSome_both?, isSome_channelIndex?, isSome_pwmMode?, and_assoc]
  · have hp : both? (channelIndex? channel.toNat) (pwmMode? mode) = some (c, m) := by
      rw [channelIndex?_eq_some.mpr hc, pwmMode?_eq_getElem?, hm, both?_some_some]
    rw [exec_of_checked hexec hn hp hinit, timerAt_def]
    refine ⟨fun huie => ?_, fun huie => ?_⟩
    · rw [if_pos huie, raise_of_ready hr]
    · rw [if_neg (Bool.eq_false_iff.mp huie)]
      refine ⟨Config.drawHalf s.drawCount, Config.drawBit (s.drawCount + 1), Config.drawBit (s.drawCount + 2),
        s.drawCount + 3, ?_⟩
      rw [← pwmInitTimer_eq]
      rfl

/-- Settles O37: one write of the channel's compare register behind the checks. -/
theorem gptSetDutyCycleWritesCompare : Obligations.GptSetDutyCycleWritesCompare := by
  intro s sel channel percent hr
  have hexec : exec (.gptSetDutyCycle sel channel percent) s = .next _ := command_of_ready hr
  refine ⟨gptGuarded_of_checked hr hexec ?_, fun n c hn hc hpct hinit => ?_⟩
  · rw [isSome_both?, isSome_channelIndex?, isSome_percent?, and_assoc]
  · have hp : both? (channelIndex? channel.toNat) (percent? percent) = some (c, percent.toNat) := by
      rw [channelIndex?_eq_some.mpr hc, percent?_eq_some hpct, both?_some_some]
    exact exec_of_checked_write hexec hn hp hinit

/-- Settles O38: the bound makes the narrowing harmless, and the rest is division in the naturals. -/
theorem compareValueIsMonotonic : Obligations.CompareValueIsMonotonic := fun arr =>
  ⟨compareValue_zero arr, compareValue_hundred arr, fun _ _ hpq hq =>
    ⟨compareValue_mono arr hpq hq, compareValue_le arr hq⟩⟩

/-- Settles O39: one write of the channel's three fields behind the checks. -/
theorem gptPwmDeinitClearsTheChannel : Obligations.GptPwmDeinitClearsTheChannel := by
  intro s sel channel hr
  have hexec : exec (.gptPwmDeinit sel channel) s = .next _ := command_of_ready hr
  exact ⟨gptGuarded_of_checked hr hexec isSome_channelIndex?.symm, fun n c hn hc hinit =>
    exec_of_checked_write hexec hn (channelIndex?_eq_some.mpr hc) hinit⟩

end Sys2Proof.Machine
end

section
/-! The SysTick unit, each behaviour said once: the operand codes and the checks of its commands (43_systick.md R190),
the segments of a delay (R202), the issue steps (R203 to R209), and one tick (R200, R201). -/

namespace Sys2Proof.Machine

/-! ### The operand codes (30_encoding.md R88) -/

theorem clockSource?_eq_getElem? (v : Half) : clockSource? v = [ClkDiv.div1, .div8][v.toNat]? := by
  unfold clockSource?
  generalize v.toNat = code
  match code with
  | 0 | 1 | _ + 2 => rfl

theorem clockSource?_eq_none {v : Half} (h : 2 ≤ v.toNat) : clockSource? v = none := by
  rw [clockSource?_eq_getElem?]
  exact List.getElem?_eq_none h

theorem stReload?_eq_some {v : Word} (h : v.toNat ≤ 16777215) : stReload? v = some (BitVec.ofNat 24 v.toNat) :=
  if_pos h

theorem stReload?_eq_none {v : Word} (h : 16777215 < v.toNat) : stReload? v = none :=
  if_neg (Nat.not_le.mpr h)

theorem isSome_stReload? {v : Word} : (stReload? v).isSome = true ↔ v.toNat ≤ 16777215 := by
  simp [stReload?]

theorem intervalTicks_eq_none {t : Nat} (h : t = 0 ∨ 16777215 < t) : intervalTicks t = none := if_pos h

theorem intervalTicks_eq_some {t : Nat} (hpos : 1 ≤ t) (hle : t ≤ 16777215) :
    intervalTicks t = some (BitVec.ofNat 24 t) :=
  if_neg (not_or.mpr ⟨by omega, Nat.not_lt.mpr hle⟩)

theorem stArmed_eq_true {st : SysTick} : stArmed st = true ↔ st.tickint = true ∧ st.slot.isSome = true :=
  Bool.and_eq_true_iff

/-! ### The checks of an ST command (R190) -/

section Checked

variable {i : Instr} {s : State} {α : Type} {p : Option α} {a : α} {body : α → State → State}

/-- A command that runs behind `stChecked` gives the answers of R190 before its effects. -/
theorem stGuarded_of_checked {paramsOk : Prop} (hr : s.Ready) (hexec : exec i s = .next (stChecked p body s))
    (hp : paramsOk ↔ p.isSome = true) : StGuarded i paramsOk s := by
  refine ⟨fun hbad => ?_, fun hok hinit => ?_⟩
  · have hnone : p = none := by simpa [hp] using hbad
    rw [hexec, stChecked_badParam hnone, failParam_eq_answer]
  · obtain ⟨a, ha⟩ := Option.isSome_iff_exists.mp (hp.mp hok)
    rw [hexec, stChecked_uninited ha hinit, raise_of_ready hr]

/-- A command without operands to check. -/
theorem stGuarded_of_checked_some (hr : s.Ready) (hexec : exec i s = .next (stChecked (some a) body s)) :
    StGuarded i True s :=
  stGuarded_of_checked hr hexec (by simp)

theorem exec_of_stChecked (hexec : exec i s = .next (stChecked p body s)) (hp : p = some a)
    (hinit : s.st.inited = true) : exec i s = .next (body a s) := by
  rw [hexec, stChecked_run hp hinit]

/-- A command whose body is one write of the unit: the write and the response are its whole effect. -/
theorem exec_of_stChecked_write {f : α → SysTick → SysTick}
    (hexec : exec i s = .next (stChecked p (fun a s => respondOk (modifySt (f a) s)) s)) (hp : p = some a)
    (hinit : s.st.inited = true) : exec i s = .next ((s.putSt (f a s.st)).answer .ok 0) :=
  exec_of_stChecked hexec hp hinit

end Checked

/-! ### The inits (R192, R193) -/

section Init

variable {s : State} {clk : Half} {reload : Word} {d : ClkDiv}

theorem exec_stInit_badClock (hr : s.Ready) (hclk : 2 ≤ clk.toNat) :
    exec (.stInit clk) s = .next (s.answer .failConfig 0) := by
  rw [exec, execStInit, command_of_ready hr, clockSource?_eq_none hclk, failConfig_eq_answer]

theorem exec_stInit_run (hr : s.Ready) (hclk : clockSource? clk = some d) :
    exec (.stInit clk) s = .next ((s.putSt (stInitWith d 0 s.st)).answer .ok 0) := by
  rw [exec, execStInit, command_of_ready hr, hclk]
  rfl

theorem exec_stInitReload_badReload (hr : s.Ready) (hreload : 16777215 < reload.toNat) :
    exec (.stInitReload clk reload) s = .next (s.answer .failParam 0) := by
  rw [exec, execStInitReload, command_of_ready hr, stReload?_eq_none hreload, failParam_eq_answer]

theorem exec_stInitReload_badClock (hr : s.Ready) (hreload : reload.toNat ≤ 16777215) (hclk : 2 ≤ clk.toNat) :
    exec (.stInitReload clk reload) s = .next (s.answer .failConfig 0) := by
  rw [exec, execStInitReload, command_of_ready hr, stReload?_eq_some hreload, clockSource?_eq_none hclk,
    failConfig_eq_answer]

theorem exec_stInitReload_run (hr : s.Ready) (hreload : reload.toNat ≤ 16777215) (hclk : clockSource? clk = some d) :
    exec (.stInitReload clk reload) s =
      .next ((s.putSt (stInitWith d (BitVec.ofNat 24 reload.toNat) s.st)).answer .ok 0) := by
  rw [exec, execStInitReload, command_of_ready hr, stReload?_eq_some hreload, hclk]
  rfl

end Init

/-! ### The segments of a delay (R202) -/

section Segments

variable {t : Nat} {l : List Ticks}

theorem segments_eq_none : segments t = none ↔ t = 0 ∨ 4294967296 ≤ t := by
  unfold segments
  by_cases hrange : t = 0 ∨ 4294967296 ≤ t
  · simp [hrange]
  · by_cases hone : t ≤ stMaxReload
    · simp [hrange, hone]
    · by_cases hmod : t % stMaxReload = 0 <;> simp [hrange, hone, hmod]

/-- One segment of what is left over, not zero, then full ones; where nothing is left over, the first is full too. -/
theorem segments_eq_some (h : segments t = some l) :
    ∃ (n : Ticks) (q : Nat), n ≠ 0 ∧ n.toNat + 16777215 * q = t ∧
      l = n :: List.replicate q (BitVec.ofNat 24 16777215) := by
  have hrange : ¬(t = 0 ∨ 4294967296 ≤ t) := by
    rw [← segments_eq_none, h]
    nofun
  rw [segments, if_neg hrange] at h
  simp only [stMaxReload] at h
  by_cases hone : t ≤ 16777215
  · rw [if_pos hone] at h
    exact ⟨BitVec.ofNat 24 t, 0, by bv_omega, by bv_omega, (Option.some.inj h).symm⟩
  · rw [if_neg hone] at h
    by_cases hmod : t % 16777215 = 0
    · obtain ⟨q, hq⟩ : ∃ q, t / 16777215 = q + 1 := Nat.exists_eq_add_one_of_ne_zero (by omega)
      rw [if_pos hmod, hq, List.replicate_succ] at h
      exact ⟨BitVec.ofNat 24 16777215, q, by decide, by bv_omega, (Option.some.inj h).symm⟩
    · rw [if_neg hmod] at h
      exact ⟨BitVec.ofNat 24 (t % 16777215), t / 16777215, by bv_omega, by bv_omega, (Option.some.inj h).symm⟩

theorem segments_eq_cons (hpos : 1 ≤ t) (hlt : t < 4294967296) : ∃ n rest, segments t = some (n :: rest) := by
  have hrange : ¬(t = 0 ∨ 4294967296 ≤ t) := by omega
  obtain ⟨l, hl⟩ := Option.ne_none_iff_exists'.mp (mt segments_eq_none.mp hrange)
  obtain ⟨n, q, -, -, rfl⟩ := segments_eq_some hl
  exact ⟨n, _, hl⟩

theorem sum_segments (h : segments t = some l) : (l.map BitVec.toNat).sum = t := by
  obtain ⟨n, q, -, ht, rfl⟩ := segments_eq_some h
  rw [List.map_cons, List.sum_cons, List.map_replicate, List.sum_replicate, smul_eq_mul, Nat.mul_comm]
  exact ht

end Segments

/-! ### The issue step of a delay (R203, R205, R206, R213) -/

section Delay

variable {i : Instr} {s : State} {v : Word} {t : Nat}

/-- One of the two delay commands, with its length in ticks. -/
def DelaysFor (i : Instr) (v : Word) (s : State) (t : Nat) : Prop :=
  (i = .stDelayUs v ∧ t = v.toNat * ticksPerUs s.cfg s.st.clkDiv) ∨
    (i = .stDelayMs v ∧ t = v.toNat * ticksPerMs s.cfg s.st.clkDiv)

theorem exec_of_delaysFor (hd : DelaysFor i v s t) (hr : s.Ready) :
    exec i s = .next (stChecked (some ()) (fun _ => blockingDelay t) s) := by
  obtain ⟨rfl, rfl⟩ | ⟨rfl, rfl⟩ := hd <;> exact command_of_ready hr

/-- `s` with a delay in progress: the segment shows `val` of `load`, and those of `rest` are to come. -/
def State.delaying (s : State) (load val : Ticks) (rest : List Ticks) (k : Continuation) : State :=
  { s.putSt { s.st with enable := true, load := load, val := val, countflag := false } with fg := .stDelay rest k }

theorem startDelay_eq_delaying {k : Continuation} {n : Ticks} {rest : List Ticks}
    (h : segments t = some (n :: rest)) : startDelay t k s = s.delaying n n rest k :=
  startDelay_of_some h

theorem blockingDelay_contention (hr : s.Ready) (h : s.st.tickint = true ∧ s.st.slot.isSome = true) :
    blockingDelay t s = s.raised .sysTickContention := by
  rw [blockingDelay, if_pos (stArmed_eq_true.mpr h), raise_of_ready hr]

theorem blockingDelay_free (h : ¬(s.st.tickint = true ∧ s.st.slot.isSome = true)) :
    blockingDelay t s = startDelay t .respond s := by
  rw [blockingDelay, if_neg (mt stArmed_eq_true.mp h), fgCheck_of_settled (fgArm_startDelay t .respond s)]

theorem exec_delay (hd : DelaysFor i v s t) (hr : s.Ready) (hinit : s.st.inited = true)
    (h : ¬(s.st.tickint = true ∧ s.st.slot.isSome = true)) {n : Ticks} {rest : List Ticks}
    (hseg : segments t = some (n :: rest)) : exec i s = .next (s.delaying n n rest .respond) := by
  rw [exec_of_stChecked (exec_of_delaysFor hd hr) rfl hinit, blockingDelay_free h, startDelay_eq_delaying hseg]

end Delay

/-! ### Arming an interval (R208, R209) -/

section Interval

variable {i : Instr} {mode : IntervalMode} {us cb : Word} {s : State} {t : Nat}

/-- One of the two commands that arm a SysTick interval, with the mode it stores. -/
def SetsStInterval (i : Instr) (mode : IntervalMode) (us cb : Word) : Prop :=
  (mode = .singleShot ∧ i = .stSetIntervalSingle us cb) ∨ (mode = .periodic ∧ i = .stSetIntervalPeriodic us cb)

theorem exec_of_setsStInterval (hm : SetsStInterval i mode us cb) (hr : s.Ready) :
    exec i s = .next (armStInterval mode us cb s) := by
  obtain ⟨rfl, rfl⟩ | ⟨rfl, rfl⟩ := hm <;> exact command_of_ready hr

theorem stGuarded_of_setsStInterval (hm : SetsStInterval i mode us cb) (hr : s.Ready) : StGuarded i (cb ≠ 0) s :=
  stGuarded_of_checked hr (exec_of_setsStInterval hm hr) (isSome_check?.trans handleOk_iff).symm

section Arm

variable (hm : SetsStInterval i mode us cb) (hr : s.Ready) (hcb : cb ≠ 0) (hinit : s.st.inited = true)
  (ht : t = us.toNat * ticksPerUs s.cfg s.st.clkDiv)

include hm hr hcb hinit ht

theorem exec_setsStInterval_reloadRange (hrange : t = 0 ∨ 16777215 < t) :
    exec i s = .next (s.raised .reloadRange) := by
  subst ht
  rw [exec_of_stChecked (exec_of_setsStInterval hm hr) (check?_eq_some.mpr (handleOk_iff.mpr hcb)) hinit, usToTicks,
    intervalTicks_eq_none hrange, raise_of_ready hr]

theorem exec_setsStInterval (hpos : 1 ≤ t) (hle : t ≤ 16777215) :
    exec i s = .next ((s.putSt (stArm mode cb (BitVec.ofNat 24 t) s.st)).answer .ok 0) := by
  subst ht
  rw [exec_of_stChecked (exec_of_setsStInterval hm hr) (check?_eq_some.mpr (handleOk_iff.mpr hcb)) hinit, usToTicks,
    intervalTicks_eq_some hpos hle]
  rfl

end Arm

end Interval

/-! ### One tick (R200) -/

section Tick

variable {s : State}

/-- `s` with the current count of SysTick replaced. -/
def State.putVal (s : State) (v : Ticks) : State := s.putSt { s.st with val := v }

theorem putVal_self {v : Ticks} (h : s.st.val = v) : s.putVal v = s := by
  subst h
  rfl

/-- `s` as a count that has just reached 0 leaves it. -/
def State.countEnded (s : State) : State := s.putSt { s.st with val := 0, countflag := true }

theorem stCount_stopped (he : s.st.enable = false) : stCount s = s := by
  rw [stCount, if_neg (Bool.eq_false_iff.mp he)]

/-- The branches of a running count. -/
theorem stCount_of_enable (he : s.st.enable = true) :
    stCount s =
      if s.st.val = 0 then s.putVal s.st.load
      else if s.st.val = 1 then if s.st.tickint then stHandler s.countEnded else s.countEnded
      else s.putVal (s.st.val - 1) := by
  have hne : (1 : Ticks) ≠ 0 := by decide
  rcases stCount_cases s with ⟨hoff, -⟩ | ⟨-, ⟨h0, e⟩ | ⟨h0, h1, e⟩ | ⟨h1, ht, e⟩ | ⟨h1, ht, e⟩⟩
  · exact absurd (he.symm.trans hoff) (by decide)
  · rw [e, if_pos h0]; rfl
  · rw [e, if_neg h0, if_neg h1]; rfl
  · rw [e, if_neg (h1 ▸ hne), if_pos h1, if_neg (Bool.eq_false_iff.mp ht)]; rfl
  · rw [e, if_neg (h1 ▸ hne), if_pos h1, if_pos ht]; rfl

theorem exec_stTick (h : s.Live) : exec .stTick s = .next (fgCheck (stCount s)) := execStTick_of_live h

theorem exec_stTick_stopped (h : s.Live) (he : s.st.enable = false) : exec .stTick s = .next (fgCheck s) := by
  rw [exec_stTick h, stCount_stopped he]

theorem exec_stTick_reload (h : s.Live) (he : s.st.enable = true) (hv : s.st.val = 0) :
    exec .stTick s = .next (fgCheck (s.putVal s.st.load)) := by
  rw [exec_stTick h, stCount_of_enable he, if_pos hv]

theorem exec_stTick_down (h : s.Live) (he : s.st.enable = true) (hv : 1 < s.st.val.toNat) :
    exec .stTick s = .next (fgCheck (s.putVal (s.st.val - 1))) := by
  have h0 : ¬ s.st.val = 0 := by bv_omega
  have h1 : ¬ s.st.val = 1 := by bv_omega
  rw [exec_stTick h, stCount_of_enable he, if_neg h0, if_neg h1]

section End

variable (h : s.Live) (he : s.st.enable = true) (hv : s.st.val = 1)

include h he hv

theorem exec_stTick_ends : exec .stTick s =
    .next (fgCheck (if s.st.tickint then stHandler s.countEnded else s.countEnded)) := by
  have h0 : ¬ s.st.val = 0 := by rw [hv]; decide
  rw [exec_stTick h, stCount_of_enable he, if_neg h0, if_pos hv]

theorem exec_stTick_ends_quiet (ht : s.st.tickint = false) : exec .stTick s = .next (fgCheck s.countEnded) := by
  rw [exec_stTick_ends h he hv, if_neg (Bool.eq_false_iff.mp ht)]

/-! The interrupt handler by the slot (R201). -/

theorem exec_stTick_ends_empty (ht : s.st.tickint = true) (hslot : s.st.slot = none) :
    exec .stTick s = .next (s.countEnded.raised .noCallback) := by
  have hslot' : s.countEnded.st.slot = none := hslot
  rw [exec_stTick_ends h he hv, if_pos ht, stHandler, hslot', fgCheck_raise, raise_of_none (s := s.countEnded) h.2]
  rfl

theorem exec_stTick_ends_singleShot {cb : Word} (ht : s.st.tickint = true)
    (hslot : s.st.slot = some { mode := .singleShot, cb := cb }) :
    exec .stTick s = .next (fgCheck { s.putSt { s.st with
        tickint := false, enable := false, load := 0, val := 0, countflag := false } with
      out := s.out ++ [.callback .st 0 cb] }) := by
  have hslot' : s.countEnded.st.slot = some ⟨.singleShot, cb⟩ := hslot
  rw [exec_stTick_ends h he hv, if_pos ht, stHandler, hslot']
  rfl

theorem exec_stTick_ends_periodic {cb : Word} (ht : s.st.tickint = true)
    (hslot : s.st.slot = some { mode := .periodic, cb := cb }) :
    exec .stTick s = .next (fgCheck { s.putSt { s.st with val := 0, countflag := false } with
      out := s.out ++ [.callback .st 0 cb] }) := by
  have hslot' : s.countEnded.st.slot = some ⟨.periodic, cb⟩ := hslot
  rw [exec_stTick_ends h he hv, if_pos ht, stHandler, hslot']
  rfl

end End

end Tick

end Sys2Proof.Machine
end

section
/-! The statements of 43_systick.md about one step and about the segments of a delay (R190 to R214). -/

namespace Sys2Proof.Machine

/-- Settles O40: the two checks in order, then one write of the unit. -/
theorem stInitStopsAndProgramsSysTick : Obligations.StInitStopsAndProgramsSysTick := by
  intro s clk reload hr
  refine ⟨exec_stInit_badClock hr, exec_stInitReload_badReload hr, exec_stInitReload_badClock hr, fun d hd => ?_⟩
  have hclk : clockSource? clk = some d := (clockSource?_eq_getElem? clk).trans hd
  exact ⟨exec_stInit_run hr hclk, fun hreload => exec_stInitReload_run hr hreload hclk⟩

/-- Settles O41: procedure `StProgram` behind the checks. -/
theorem stSetReloadProgramsBothRegisters : Obligations.StSetReloadProgramsBothRegisters := by
  intro s reload hr
  have hexec : exec (.stSetReload reload) s = .next _ := command_of_ready hr
  exact ⟨stGuarded_of_checked hr hexec isSome_stReload?.symm, fun hreload hinit =>
    exec_of_stChecked_write hexec (stReload?_eq_some hreload) hinit⟩

/-- Settles O42: one write each behind the checks. -/
theorem stStartStopAndReset : Obligations.StStartStopAndReset := by
  intro s hr
  have hstart : exec .stStart s = .next _ := command_of_ready hr
  have hstop : exec .stStop s = .next _ := command_of_ready hr
  have hreset : exec .stReset s = .next _ := command_of_ready hr
  exact ⟨stGuarded_of_checked_some hr hstart, stGuarded_of_checked_some hr hstop,
    stGuarded_of_checked_some hr hreset, fun hinit =>
      ⟨exec_of_stChecked_write hstart rfl hinit, exec_of_stChecked_write hstop rfl hinit,
       exec_of_stChecked_write hreset rfl hinit⟩⟩

/-- Settles O43: both reads answer from the registers; `VAL ≤ LOAD` makes the elapsed count a true difference. -/
theorem stReadsAnswerAndWriteNothing : Obligations.StReadsAnswerAndWriteNothing := by
  intro s hr
  have hremaining : exec .stGetRemaining s = .next _ := command_of_ready hr
  have helapsed : exec .stGetElapsed s = .next _ := command_of_ready hr
  refine ⟨stGuarded_of_checked_some hr hremaining, stGuarded_of_checked_some hr helapsed,
    fun hinit => ⟨?_, fun hle => ?_⟩⟩
  · rw [exec_of_stChecked hremaining rfl hinit, BitVec.ofNat_toNat, respond_eq_answer]
  · exact ⟨elapsed s.st, Nat.sub_add_cancel hle, exec_of_stChecked helapsed rfl hinit⟩

/-- Settles O44: every branch of the count, the last one by the interrupt enable and the slot. -/
theorem stTickCountsDown : Obligations.StTickCountsDown := fun _ hlive =>
  ⟨exec_stTick_stopped hlive, exec_stTick_reload hlive, exec_stTick_down hlive, exec_stTick_ends_quiet hlive,
    exec_stTick_ends_empty hlive, fun _ he hv => exec_stTick_ends_singleShot hlive he hv,
    fun _ he hv => exec_stTick_ends_periodic hlive he hv⟩

/-- Settles O45: the parts of the shape `segments_eq_some` gives. -/
theorem segmentsSplitADelay : Obligations.SegmentsSplitADelay := by
  intro t
  refine ⟨segments_eq_none, fun l hl => ?_⟩
  have hlt : t < 4294967296 := by
    by_contra hge
    rw [segments_eq_none.mpr (.inr (Nat.not_lt.mp hge))] at hl
    cases hl
  have hne : ∀ x ∈ l, x ≠ 0 := segments_ne_zero hl
  have hsum : (l.map BitVec.toNat).sum = t := sum_segments hl
  obtain ⟨n, q, hn, ht, rfl⟩ := segments_eq_some hl
  have hlen : (n :: List.replicate q (BitVec.ofNat 24 16777215)).length = q + 1 := by simp
  have hn1 : 1 ≤ n.toNat ∧ n.toNat ≤ 16777215 := by bv_omega
  refine ⟨fun x hx => ?_, hsum, ?_, ?_, ?_, fun x hx => ?_⟩
  · have hx0 := hne x hx
    bv_omega
  · rw [hlen]; omega
  · rw [hlen]; omega
  · rw [hlen]; omega
  · rw [List.eq_of_mem_replicate hx]; rfl

/-- Settles O46: behind the checks, the contention guard, then the range, then the first segment. -/
theorem stDelayIssue : Obligations.StDelayIssue := by
  intro s v i t hr hd
  have hexec := exec_of_delaysFor hd hr
  refine ⟨stGuarded_of_checked_some hr hexec, fun hinit =>
    ⟨fun ht hslot => ?_, fun hfree hnone => ?_, fun n rest hfree hseg => ?_⟩⟩
  · rw [exec_of_stChecked hexec rfl hinit, blockingDelay_contention hr ⟨ht, hslot⟩]
  · rw [exec_of_stChecked hexec rfl hinit, blockingDelay_free hfree, startDelay_of_none hnone, raise_of_ready hr]
  · exact exec_delay hd hr hinit hfree hseg

/-- Settles O49: both commands are `armStInterval` with their mode. -/
theorem stSetIntervalArmsSysTick : Obligations.StSetIntervalArmsSysTick := by
  intro s us cb mode i t hr hm ht
  exact ⟨stGuarded_of_setsStInterval hm hr, fun hcb hinit =>
    ⟨exec_setsStInterval_reloadRange hm hr hcb hinit ht, exec_setsStInterval hm hr hcb hinit ht⟩⟩

end Sys2Proof.Machine
end

section
/-! Runs of ST_TICK on a running SysTick (43_systick.md R200 to R209): ticks that only count, a delay through all of its
segments, and an armed interval. -/

namespace Sys2Proof.Machine

/-! ### Ticks that only count (R200) -/

section Counting

variable {s : State}

@[simp] theorem putVal_putVal (s : State) (v w : Ticks) : (s.putVal v).putVal w = s.putVal w := rfl

/-- A running count goes down by `k`, short of 0, where the foreground is settled by every count on the way. -/
theorem quietRun_stTick (hs : s.Live) (he : s.st.enable = true) {k : Nat} (hk : k < s.st.val.toNat)
    (hw : ∀ j, 0 < j → j ≤ k → fgArm (s.putVal (BitVec.ofNat 24 (s.st.val.toNat - j))) = none) :
    QuietRun .stTick k s (s.putVal (BitVec.ofNat 24 (s.st.val.toNat - k))) := by
  induction k with
  | zero => rw [putVal_self (by simp)]; exact .refl _ s
  | succ k ih =>
    refine (ih (by omega) fun j hj hjk => hw j hj (by omega)).snoc ?_ rfl rfl
    have hlt : 1 < (BitVec.ofNat 24 (s.st.val.toNat - k)).toNat := by bv_omega
    have hpred : BitVec.ofNat 24 (s.st.val.toNat - k) - 1 = BitVec.ofNat 24 (s.st.val.toNat - (k + 1)) := by bv_omega
    calc exec .stTick (s.putVal (BitVec.ofNat 24 (s.st.val.toNat - k)))
        = .next (fgCheck (s.putVal (BitVec.ofNat 24 (s.st.val.toNat - k) - 1))) :=
          exec_stTick_down (s := s.putVal _) hs he hlt
      _ = .next (s.putVal (BitVec.ofNat 24 (s.st.val.toNat - (k + 1)))) := by
          rw [hpred, fgCheck_of_settled (hw (k + 1) (by omega) (by omega))]

end Counting

/-! ### A foreground that stays busy -/

section Busy

variable {i : Instr} {k m : Nat} {s t u : State}

/-- `k` copies of the event lead from `s` to `t`; before the last of them the foreground is never idle and nothing is
emitted. -/
structure BusyRun (i : Instr) (k : Nat) (s t : State) : Prop where
  run : execTimes i k s = .next t
  busy : ∀ j < k, ∃ u, execTimes i j s = .next u ∧ u.fg ≠ .idle ∧ u.out = s.out

/-- A quiet run of a busy foreground, and one event more, whatever that does. -/
theorem QuietRun.busyRun (h : QuietRun i k s t) (hi : exec i t = .next u) (hfg : s.fg ≠ .idle) :
    BusyRun i (k + 1) s u := by
  refine ⟨execTimes_succ_last h.run hi, fun j hj => ?_⟩
  obtain ⟨v, hrun, hv, hout⟩ := h.quiet j (Nat.lt_succ_iff.mp hj)
  exact ⟨v, hrun, hv ▸ hfg, hout⟩

theorem BusyRun.trans (hst : BusyRun i k s t) (htu : BusyRun i m t u) (hout : t.out = s.out) :
    BusyRun i (k + m) s u := by
  refine ⟨(execTimes_add hst.run).trans htu.run, fun j hj => ?_⟩
  by_cases hjk : j < k
  · exact hst.busy j hjk
  · obtain ⟨j, rfl⟩ := Nat.exists_eq_add_of_le (Nat.not_lt.mp hjk)
    obtain ⟨v, hrun, hfg, hv⟩ := htu.busy j (by omega)
    exact ⟨v, (execTimes_add hst.run).trans hrun, hfg, hv.trans hout⟩

end Busy

/-! ### A delay (R203, R204) -/

section Delay

variable {s : State} {n : Ticks} {rest : List Ticks} {k : Continuation}

/-- A segment that has not ended is not looked at. -/
theorem fgArm_delaying (hf : s.fault = none) (load val : Ticks) : fgArm (s.delaying load val rest k) = none :=
  fgArm_stDelay (s := s.delaying load val rest k) hf rfl

/-- The next segment overwrites what the one before has written, and so does the end of the delay. -/
theorem delaySegmentDone_delaying_cons (load val : Ticks) :
    delaySegmentDone (n :: rest) k (s.delaying load val (n :: rest) k).countEnded = s.delaying n n rest k := rfl

theorem delaySegmentDone_delaying_nil (load val : Ticks) :
    delaySegmentDone [] k (s.delaying load val [] k).countEnded = delaySegmentDone [] k s := by
  cases k <;> rfl

/-- The end of a delay that was issued in an idle block. -/
theorem delaySegmentDone_respond (hidle : s.fg = .idle) :
    delaySegmentDone [] .respond s =
      (s.putSt { s.st with enable := false, load := 0, val := 0, countflag := false }).answer .ok 0 :=
  calc delaySegmentDone [] .respond s
      = State.answer { s.putSt { s.st with enable := false, load := 0, val := 0, countflag := false } with
          fg := .idle } .ok 0 := rfl
    _ = _ := by rw [← hidle]; rfl

/-- A segment of `n` ticks ends on its tick `n`. -/
theorem busyRun_segment (hs : s.Live) (ht : s.st.tickint = false) (hn : n ≠ 0)
    (hdone : fgArm (delaySegmentDone rest k (s.delaying n 0 rest k).countEnded) = none) :
    BusyRun .stTick n.toNat (s.delaying n n rest k)
      (delaySegmentDone rest k (s.delaying n 0 rest k).countEnded) := by
  obtain ⟨m, hm⟩ : ∃ m, n.toNat = m + 1 := Nat.exists_eq_add_one_of_ne_zero (by bv_omega)
  have hcounts : QuietRun .stTick m (s.delaying n n rest k) (s.delaying n (BitVec.ofNat 24 (n.toNat - m)) rest k) :=
    quietRun_stTick (s := s.delaying n n rest k) hs rfl (by show m < n.toNat; omega)
      fun _ _ _ => fgArm_delaying (s := s) hs.2 n _
  have hone : BitVec.ofNat 24 (n.toNat - m) = 1 := by bv_omega
  rw [hone] at hcounts
  have hends : exec .stTick (s.delaying n 1 rest k) =
      .next (delaySegmentDone rest k (s.delaying n 0 rest k).countEnded) := by
    rw [exec_stTick_ends_quiet (s := s.delaying n 1 rest k) hs rfl rfl ht]
    exact congrArg _ (fgCheck_delayDone (s := (s.delaying n 0 rest k).countEnded) hs.2 rfl rfl hdone)
  rw [hm]
  exact hcounts.busyRun hends nofun

/-- The segments follow each other without a gap (R207 (d)). -/
theorem busyRun_delay (hs : s.Live) (ht : s.st.tickint = false) (hdone : fgArm (delaySegmentDone [] k s) = none)
    (hne : ∀ x ∈ n :: rest, x ≠ 0) :
    BusyRun .stTick ((n :: rest).map BitVec.toNat).sum (s.delaying n n rest k) (delaySegmentDone [] k s) := by
  induction rest generalizing n with
  | nil =>
    rw [← delaySegmentDone_delaying_nil n 0] at hdone ⊢
    exact busyRun_segment hs ht (hne n (by simp)) hdone
  | cons m rest ih =>
    have hnext : delaySegmentDone (m :: rest) k (s.delaying n 0 (m :: rest) k).countEnded = s.delaying m m rest k :=
      delaySegmentDone_delaying_cons n 0
    have hfirst : BusyRun .stTick n.toNat (s.delaying n n (m :: rest) k) (s.delaying m m rest k) := by
      rw [← hnext]
      exact busyRun_segment hs ht (hne n (by simp)) (hnext ▸ fgArm_delaying hs.2 m m)
    exact hfirst.trans (ih fun x hx => hne x (List.mem_cons_of_mem n hx)) rfl

end Delay

/-! ### An armed interval (R208, R209) -/

/-- An idle block whose SysTick runs an interval of `t` ticks, whatever it counts at the moment. -/
structure StInterval (t : Nat) (mode : IntervalMode) (cb : Word) (s : State) : Prop where
  ready : s.Ready
  enable : s.st.enable = true
  tickint : s.st.tickint = true
  countflag : s.st.countflag = false
  load : s.st.load.toNat = t
  slot : s.st.slot = some ⟨mode, cb⟩
  pos : 1 ≤ t

/-- A stopped SysTick of an idle block does not move. -/
theorem exec_stTick_rests {s : State} (hr : s.Ready) (he : s.st.enable = false) : exec .stTick s = .next s := by
  rw [exec_stTick_stopped hr.1 he, fgCheck_of_idle hr.2]

section Armed

variable {t : Nat} {mode : IntervalMode} {cb : Word} {s : State}

theorem StInterval.putVal (h : StInterval t mode cb s) (v : Ticks) : StInterval t mode cb (s.putVal v) :=
  ⟨h.ready, h.enable, h.tickint, h.countflag, h.load, h.slot, h.pos⟩

theorem StInterval.putOut (h : StInterval t mode cb s) (records : List Record) :
    StInterval t mode cb { s with out := records } :=
  ⟨h.ready, h.enable, h.tickint, h.countflag, h.load, h.slot, h.pos⟩

theorem stInterval_stArm (hr : s.Ready) (hpos : 1 ≤ t) (hle : t ≤ 16777215) :
    StInterval t mode cb ((s.putSt (stArm mode cb (BitVec.ofNat 24 t) s.st)).answer .ok 0) :=
  ⟨hr, rfl, rfl, rfl, Nat.mod_eq_of_lt (by omega), rfl, hpos⟩

/-- From the reload, fewer than `t` ticks only count. -/
theorem StInterval.counts (h : StInterval t mode cb s) (hv : s.st.val = s.st.load) {k : Nat} (hk : k < t) :
    QuietRun .stTick k s (s.putVal (BitVec.ofNat 24 (t - k))) := by
  have hval : s.st.val.toNat = t := by rw [hv, h.load]
  rw [← hval] at hk ⊢
  exact quietRun_stTick h.ready.1 h.enable hk fun _ _ _ => fgArm_of_idle h.ready.2

/-- The state on whose next tick the interval fires. -/
theorem StInterval.counts_to_one (h : StInterval t mode cb s) (hv : s.st.val = s.st.load) :
    execTimes .stTick (t - 1) s = .next (s.putVal 1) := by
  have hpos := h.pos
  have hone : t - (t - 1) = 1 := by omega
  have hcounts := (h.counts hv (k := t - 1) (by omega)).run
  rwa [hone] at hcounts

/-- A single shot invokes its callback on tick `t` and stops and disarms SysTick (R201). -/
theorem StInterval.fires_singleShot (h : StInterval t .singleShot cb s) (hv : s.st.val = s.st.load) :
    execTimes .stTick t s = .next { s.putSt { s.st with
        tickint := false, enable := false, load := 0, val := 0, countflag := false } with
      out := s.out ++ [.callback .st 0 cb] } := by
  have hends : exec .stTick (s.putVal 1) = .next (fgCheck _) :=
    exec_stTick_ends_singleShot (s := s.putVal 1) h.ready.1 h.enable rfl h.tickint h.slot
  rw [← Nat.sub_add_cancel h.pos, execTimes_succ_last (h.counts_to_one hv) hends,
    fgCheck_of_idle (by exact h.ready.2)]
  rfl

/-- A single shot does not fire again. -/
theorem StInterval.fires_once (h : StInterval t .singleShot cb s) (hv : s.st.val = s.st.load) (k : Nat) :
    execTimes .stTick (t + k) s = .next { s.putSt { s.st with
        tickint := false, enable := false, load := 0, val := 0, countflag := false } with
      out := s.out ++ [.callback .st 0 cb] } := by
  rw [execTimes_add (h.fires_singleShot hv)]
  exact execTimes_fixed (exec_stTick_rests (by exact h.ready) rfl) k

/-- A periodic interval invokes its callback on tick `t` and runs on (R201). -/
theorem StInterval.fires_periodic (h : StInterval t .periodic cb s) (hv : s.st.val = s.st.load) :
    execTimes .stTick t s = .next { s.putVal 0 with out := s.out ++ [.callback .st 0 cb] } := by
  have hends : exec .stTick (s.putVal 1) = .next (fgCheck _) :=
    exec_stTick_ends_periodic (s := s.putVal 1) h.ready.1 h.enable rfl h.tickint h.slot
  have hst : { s.st with val := 0, countflag := false } = { s.st with val := 0 } := by rw [← h.countflag]
  rw [← Nat.sub_add_cancel h.pos, execTimes_succ_last (h.counts_to_one hv) hends,
    fgCheck_of_idle (by exact h.ready.2)]
  exact congrArg (fun st => Host.Outcome.next { s.putSt st with out := s.out ++ [Record.callback .st 0 cb] }) hst

/-- The tick after the callback reloads the count (R200). -/
theorem StInterval.reloads (h : StInterval t mode cb s) (hv : s.st.val = 0) :
    exec .stTick s = .next (s.putVal s.st.load) := by
  rw [exec_stTick_reload h.ready.1 h.enable hv, fgCheck_of_idle (by exact h.ready.2)]

/-- From 0, up to `t` ticks reload and count. -/
theorem StInterval.reloads_counts (h : StInterval t mode cb s) (hv : s.st.val = 0) {k : Nat} (hk : k ≤ t) :
    ∃ v, execTimes .stTick k s = .next (s.putVal v) := by
  cases k with
  | zero => exact ⟨0, by rw [putVal_self hv, execTimes_zero]⟩
  | succ k =>
    rw [execTimes_succ_of_next (h.reloads hv)]
    exact ⟨_, ((h.putVal _).counts rfl hk).run⟩

/-- `m` periods from 0 leave the state but for the callbacks. -/
theorem StInterval.periods (h : StInterval t .periodic cb s) (hv : s.st.val = 0) (m : Nat) :
    execTimes .stTick (m * (t + 1)) s =
      .next { s with out := s.out ++ List.replicate m (.callback .st 0 cb) } := by
  have hperiod {records : List Record} : execTimes .stTick (t + 1) { s with out := records } =
      .next { s with out := records ++ [.callback .st 0 cb] } := by
    rw [execTimes_succ_of_next ((h.putOut records).reloads hv), ((h.putOut records).putVal _).fires_periodic rfl,
      putVal_putVal, putVal_self (s := { s with out := records }) hv]
    rfl
  induction m with
  | zero => simp
  | succ m ih =>
    rw [Nat.succ_mul, execTimes_add ih, hperiod, List.append_assoc, ← List.replicate_succ']

/-- Callbacks on the ticks `t`, `2t + 1`, `3t + 2` and so on, and none on the ticks between (R209). -/
theorem StInterval.runs (h : StInterval t .periodic cb s) (hv : s.st.val = s.st.load) (m : Nat) {k : Nat}
    (hk : k ≤ t) : ∃ v, execTimes .stTick (t + m * (t + 1) + k) s =
      .next { s.putVal v with out := s.out ++ List.replicate (m + 1) (.callback .st 0 cb) } := by
  have hperiods := ((h.putVal 0).putOut (s.out ++ [.callback .st 0 cb])).periods rfl m
  obtain ⟨v, hcounts⟩ :=
    ((h.putVal 0).putOut (s.out ++ List.replicate (m + 1) (.callback .st 0 cb))).reloads_counts rfl hk
  dsimp only at hperiods
  rw [List.append_assoc, List.singleton_append, ← List.replicate_succ] at hperiods
  exact ⟨v, (execTimes_add ((execTimes_add (h.fires_periodic hv)).trans hperiods)).trans hcounts⟩

end Armed

end Sys2Proof.Machine
end

section
/-! The statements of 43_systick.md about runs (R204 to R209). -/

namespace Sys2Proof.Machine

/-- Settles O48: each segment takes as many ticks as it is long, and the lengths sum to the delay's. -/
theorem delayLastsExactlyItsTicks : Obligations.DelayLastsExactlyItsTicks := by
  intro s v i t hr hd hinit htickint hpos hlt
  obtain ⟨n, rest, hseg⟩ := segments_eq_cons hpos hlt
  have hfree : ¬(s.st.tickint = true ∧ s.st.slot.isSome = true) := by
    rw [htickint]
    nofun
  have hrun : BusyRun .stTick t (s.delaying n n rest .respond) (delaySegmentDone [] .respond s) := by
    rw [← sum_segments hseg]
    exact busyRun_delay hr.1 htickint (fgArm_of_idle rfl) (segments_ne_zero hseg)
  rw [delaySegmentDone_respond hr.2] at hrun
  exact ⟨_, exec_delay hd hr hinit hfree hseg, hrun.busy, hrun.run⟩

/-- Settles O50: `t` ticks lead to the first callback, and `t + 1` to each further one. -/
theorem stPeriodicFiresOnItsTicks : Obligations.StPeriodicFiresOnItsTicks := by
  intro s us cb t hr hinit hcb ht hpos hle
  have harmed : StInterval t .periodic cb _ := stInterval_stArm hr hpos hle
  refine ⟨_, exec_setsStInterval (.inr ⟨rfl, rfl⟩) hr hcb hinit ht hpos hle, rfl,
    fun k hk => ⟨_, (harmed.counts rfl hk).run, rfl⟩, fun m k hk => ?_⟩
  obtain ⟨v, hrun⟩ := harmed.runs rfl m hk
  exact ⟨_, hrun, rfl, harmed.enable, harmed.tickint⟩

/-- Settles O51: tick `t` fires, and a stopped SysTick stays as it is. -/
theorem stSingleShotFiresOnItsTick : Obligations.StSingleShotFiresOnItsTick := by
  intro s us cb t hr hinit hcb ht hpos hle
  have harmed : StInterval t .singleShot cb _ := stInterval_stArm hr hpos hle
  refine ⟨_, exec_setsStInterval (.inl ⟨rfl, rfl⟩) hr hcb hinit ht hpos hle,
    fun k hk => ⟨_, (harmed.counts rfl hk).run, rfl⟩, fun k => ?_⟩
  rw [harmed.fires_once rfl k]
  simp only [State.answer, List.append_assoc]
  rfl

end Sys2Proof.Machine
end

section
/-! The ultrasonic unit, each behaviour said once: its timeout (44_ultrasonic.md R231), the checks its commands share
(R230), the effects of US_INIT and of a read's issue step (R234, R235), and the edge handler (R239, R240). -/

namespace Sys2Proof.Machine

/-! ### The timeout (R231) -/

/-- One centimetre more is more than 58 ticks more, so the division does not lose the difference. -/
theorem timeoutTicks_lt {a b : Half} (h : a.toNat < b.toNat) : timeoutTicks a < timeoutTicks b := by
  have hdiv : a.toNat * 58842 / 1000 + 1 ≤ b.toNat * 58842 / 1000 :=
    calc a.toNat * 58842 / 1000 + 1
        = (a.toNat * 58842 + 1000) / 1000 := (Nat.add_div_right _ (by decide)).symm
      _ ≤ b.toNat * 58842 / 1000 := Nat.div_le_div_right (by omega)
  exact Nat.succ_lt_succ hdiv

theorem timeoutTicks_le (cm : Half) : timeoutTicks cm ≤ 3856211 := by
  have hcm := cm.isLt
  unfold timeoutTicks
  omega

/-! ### The checks of a US command (R230) -/

section Checked

variable {i : Instr} {id : Byte} {s : State} {α : Type} {p : Option α} {a : α} {body : Sensor → α → State → State}

/-- A command that runs behind `usChecked` gives the answers of R230 before its effects. -/
theorem usGuarded_of_checked {paramsOk : Prop} (hr : s.Ready) (hexec : exec i s = .next (usChecked id p body s))
    (hp : paramsOk ↔ p.isSome = true) : UsGuarded i id paramsOk s := by
  refine ⟨fun hid => ?_, fun _ hbad => ?_, fun hid hok hnone => ?_⟩
  · rw [hexec, usChecked_badIndex hid, failParam_eq_answer]
  · have hnone : p = none := by simpa [hp] using hbad
    rw [hexec, usChecked_badParam hnone, failParam_eq_answer]
  · obtain ⟨a, ha⟩ := Option.isSome_iff_exists.mp (hp.mp hok)
    rw [hexec, usChecked_uninited hid ha hnone, raise_of_ready hr]

/-- A command without operands to check. -/
theorem usGuarded_of_checked_some (hr : s.Ready) (hexec : exec i s = .next (usChecked id (some a) body s)) :
    UsGuarded i id True s :=
  usGuarded_of_checked hr hexec (by simp)

theorem exec_of_usChecked {r : Sensor} (hexec : exec i s = .next (usChecked id p body s))
    (hid : id.toNat < s.cfg.usCapacity) (hp : p = some a) (hsensor : sensorAt id.toNat s = some r) :
    exec i s = .next (body r a s) := by
  rw [hexec, usChecked_run hid hp hsensor]

end Checked

/-! ### US_INIT (R234) -/

theorem usInitBody_eq (k : Nat) (r : Sensor) (s : State) :
    usInitBody k r s =
      { (s.putSensor k r).putSt (stInitWith s.cfg.stDefaultDiv 0 s.st) with
        extiReg := s.extiReg.set r.echoPin.toNat true r.echoPin.isLt,
        out := s.out ++ (usInitCalls r ++ [.response .ok 0]) } := by
  rw [← List.append_assoc]
  rfl

section Init

variable {s : State} {id : Byte} {range : Half} {ep eport tp tport : Nibble}

theorem exec_usInit_badIndex (hr : s.Ready) (hid : s.cfg.usCapacity ≤ id.toNat) :
    exec (.usInit id range ep eport tp tport) s = .next (s.answer .failParam 0) := by
  rw [exec, execUsInit, command_of_ready hr, if_neg (Nat.not_lt.mpr hid), failParam_eq_answer]

theorem exec_usInit_contention (hr : s.Ready) (hid : id.toNat < s.cfg.usCapacity)
    (h : s.st.tickint = true ∧ s.st.slot.isSome = true) :
    exec (.usInit id range ep eport tp tport) s = .next (s.raised .sysTickContention) := by
  rw [exec, execUsInit, command_of_ready hr, if_pos hid, if_pos (stArmed_eq_true.mpr h), raise_of_ready hr]

theorem exec_usInit_run (hr : s.Ready) (hid : id.toNat < s.cfg.usCapacity)
    (h : ¬(s.st.tickint = true ∧ s.st.slot.isSome = true)) :
    exec (.usInit id range ep eport tp tport) s =
      .next (usInitBody id.toNat
        { echoPin := ep, echoPort := eport, trigPin := tp, trigPort := tport, range := range,
          timeout := timeoutTicks range, enabled := true } s) := by
  rw [exec, execUsInit, command_of_ready hr, if_pos hid, if_neg (mt stArmed_eq_true.mp h)]

end Init

/-! ### The issue step of a read (R235) -/

section Read

variable {s : State} {id : Byte} {r : Sensor}

/-- `s` as a read of a sensor leaves it when its setup delay starts: the session is reset, the echo line enabled and the
trigger pin low. -/
def readPrepared (r : Sensor) (s : State) : State :=
  { s with
    ses := { s.ses with state := .waitingForRisingEdge },
    extiEn := s.extiEn.set r.echoPin.toNat true r.echoPin.isLt,
    out := s.out ++ startReadCalls r }

theorem startRead_eq_startDelay (k : Nat) (r : Sensor) (s : State) :
    startRead k r s = startDelay (2 * ticksPerUs s.cfg s.st.clkDiv) (.usTrigHigh k) (readPrepared r s) := by
  have hprepared : readPrepared r s =
      emitCall (.gpioSetPinValue r.trigPort r.trigPin .low) (emitCall (.extiSetTriggerEdge r.echoPin .both)
        (setExtiEn r.echoPin true (emitCall (.extiEnableLine r.echoPin)
          { s with ses := { s.ses with state := .waitingForRisingEdge } }))) := by
    simp [readPrepared, startReadCalls, emitCall, emit, setExtiEn]
  rw [hprepared]
  exact fgCheck_of_settled (fgArm_startDelay _ _ _)

theorem exec_usReadDistance (hr : s.Ready) (hid : id.toNat < s.cfg.usCapacity)
    (hsensor : sensorAt id.toNat s = some r) (hon : r.enabled = true) :
    exec (.usReadDistance id) s = .next
      (if s.st.inited then if stArmed s.st then raise .sysTickContention s else startRead id.toNat r s
       else raise .notInitialised s) := by
  have hexec : exec (.usReadDistance id) s = .next _ := command_of_ready hr
  rw [exec_of_usChecked hexec hid rfl hsensor, if_pos hon]

theorem exec_usReadDistance_disabled (hr : s.Ready) (hid : id.toNat < s.cfg.usCapacity)
    (hsensor : sensorAt id.toNat s = some r) (hoff : r.enabled = false) :
    exec (.usReadDistance id) s = .next (s.answer .ok 0xFFFFFFFE) := by
  have hexec : exec (.usReadDistance id) s = .next _ := command_of_ready hr
  rw [exec_of_usChecked hexec hid rfl hsensor, if_neg (Bool.eq_false_iff.mp hoff), respond_eq_answer]

/-- The read starts where its checks hold. -/
theorem exec_usReadDistance_run (hr : s.Ready) (hid : id.toNat < s.cfg.usCapacity)
    (hsensor : sensorAt id.toNat s = some r) (hon : r.enabled = true) (hinit : s.st.inited = true)
    (hfree : ¬(s.st.tickint = true ∧ s.st.slot.isSome = true)) :
    exec (.usReadDistance id) s =
      .next (startDelay (2 * ticksPerUs s.cfg s.st.clkDiv) (.usTrigHigh id.toNat) (readPrepared r s)) := by
  rw [exec_usReadDistance hr hid hsensor hon, if_pos hinit, if_neg (mt stArmed_eq_true.mp hfree),
    startRead_eq_startDelay]

end Read

/-! ### The edge event (R239, R240) -/

section Edge

variable {s : State} {line : Byte} {l : Fin 16}

/-- `s` as a rising edge leaves it: the elapsed count starts from its full range. -/
def State.echoRisen (s : State) : State :=
  { s.putSt { s.st with enable := true, load := 0xFFFFFF, val := 0xFFFFFF, countflag := false } with
    ses := { s.ses with state := .waitingForFallingEdge } }

/-- `s` as a falling edge leaves it: the count stops and its width is the distance. -/
def State.echoFallen (s : State) : State :=
  { s.putSt { s.st with enable := false } with
    ses := { state := .done, distance := 17 * (s.st.load.toNat - s.st.val.toNat) } }

theorem edgeHandler_stray (hses : s.ses.state = .idle) : edgeHandler s = raise .strayEdge s := by
  simp only [edgeHandler, hses]

theorem edgeHandler_early (hses : s.ses.state = .waitingForRisingEdge) (hfg : ∀ i, s.fg ≠ .usPoll i) :
    edgeHandler s = raise .sysTickContention s := by
  have hpoll : ¬ polling s.fg = true := fun hpoll => (polling_eq_true.mp hpoll).elim hfg
  simp only [edgeHandler, hses, if_neg hpoll]

theorem edgeHandler_rising {i : Nat} (hses : s.ses.state = .waitingForRisingEdge) (hfg : s.fg = .usPoll i) :
    edgeHandler s = s.echoRisen := by
  simp only [edgeHandler, hses, if_pos (polling_eq_true.mpr ⟨i, hfg⟩)]
  rfl

theorem edgeHandler_falling (hses : s.ses.state = .waitingForFallingEdge) : edgeHandler s = s.echoFallen := by
  simp only [edgeHandler, hses]
  rfl

theorem edgeHandler_done (hses : s.ses.state = .done) : edgeHandler s = s := by
  simp only [edgeHandler, hses]

theorem exec_extiEdge_noLine (hs : s.Live) (hl : 16 ≤ line.toNat) : exec (.extiEdge line) s = .next s := by
  rw [exec, execExtiEdge, event_of_live hs, dif_neg (Nat.not_lt.mpr hl)]

theorem exec_extiEdge_masked (hs : s.Live) (hl : line.toNat = l.val)
    (hoff : ¬(s.extiEn[l] = true ∧ s.extiReg[l] = true)) : exec (.extiEdge line) s = .next (fgCheck s) := by
  have hmasked : deliverEdge l s = s := if_neg (mt Bool.and_eq_true_iff.mp hoff)
  rw [exec, execExtiEdge_of_lt hs hl, hmasked]

theorem exec_extiEdge_delivered (hs : s.Live) (hl : line.toNat = l.val) (hen : s.extiEn[l] = true)
    (hreg : s.extiReg[l] = true) : exec (.extiEdge line) s = .next (fgCheck (edgeHandler s)) := by
  have hdelivered : deliverEdge l s = edgeHandler s := if_pos (Bool.and_eq_true_iff.mpr ⟨hen, hreg⟩)
  rw [exec, execExtiEdge_of_lt hs hl, hdelivered]

end Edge

end Sys2Proof.Machine
end

section
/-! The statements of 44_ultrasonic.md about one step (R230 to R243). -/

namespace Sys2Proof.Machine

/-- Settles O52: the listed values are computed, and the bound is the largest `u16`'s. -/
theorem timeoutIsStrictlyIncreasing : Obligations.TimeoutIsStrictlyIncreasing :=
  ⟨fun cm => ⟨rfl, Nat.le_add_left 1 _, timeoutTicks_le cm⟩, by decide, fun _ _ => timeoutTicks_lt⟩

/-- Settles O53, line by line. -/
theorem vectorServesItsLines : Obligations.VectorServesItsLines := by
  unfold Obligations.VectorServesItsLines
  decide

/-- Settles O54: the checks in order, then the effects of `usInitBody`. -/
theorem usInitStoresAndRegisters : Obligations.UsInitStoresAndRegisters := by
  intro s id range ep eport tp tport hr
  refine ⟨exec_usInit_badIndex hr, fun hid ht hslot => exec_usInit_contention hr hid ⟨ht, hslot⟩, fun hid hfree => ?_⟩
  rw [exec_usInit_run hr hid hfree, usInitBody_eq]
  rfl

/-- Settles O55: the checks in order, then the setup delay on the prepared session, in its range or out of it. -/
theorem usReadDistanceIssue : Obligations.UsReadDistanceIssue := by
  intro s id hr
  refine ⟨usGuarded_of_checked_some hr (command_of_ready hr), fun r hid hsensor =>
    ⟨exec_usReadDistance_disabled hr hid hsensor, fun hon hinit => ?uninited, fun hon hinit ht hslot => ?armed,
      fun n rest hon hinit hfree hseg => ?starts, fun hon hinit hfree hnone => ?outOfRange⟩⟩
  case uninited =>
    rw [exec_usReadDistance hr hid hsensor hon, if_neg (Bool.eq_false_iff.mp hinit), raise_of_ready hr]
  case armed =>
    rw [exec_usReadDistance hr hid hsensor hon, if_pos hinit, if_pos (stArmed_eq_true.mpr ⟨ht, hslot⟩),
      raise_of_ready hr]
  case starts =>
    rw [exec_usReadDistance_run hr hid hsensor hon hinit hfree, startDelay_of_some hseg]
    rfl
  case outOfRange =>
    refine ⟨_, exec_usReadDistance_run hr hid hsensor hon hinit hfree, ?_⟩
    rw [startDelay_of_none hnone, raise_of_none (s := readPrepared r s) hr.1.2]
    exact ⟨rfl, hr.2⟩

/-- Settles O56: one write of the record each, behind the checks. -/
theorem usSetRangeAndState : Obligations.UsSetRangeAndState := by
  intro s id v hr
  have hrange : exec (.usSetRange id v) s = .next _ := command_of_ready hr
  have hstate : exec (.usSetState id v) s = .next _ := command_of_ready hr
  refine ⟨usGuarded_of_checked_some hr hrange, usGuarded_of_checked hr hstate isSome_onOff?.symm,
    fun r hid hsensor => ⟨exec_of_usChecked hrange hid rfl hsensor, ?_, ?_⟩⟩
  · rintro rfl
    exact exec_of_usChecked hstate hid rfl hsensor
  · rintro rfl
    exact exec_of_usChecked hstate hid rfl hsensor

/-- Settles O57: the gate of the two mirrors, then the edge handler by the session's state. -/
theorem extiEdgeDrivesTheSession : Obligations.ExtiEdgeDrivesTheSession := by
  intro s line l hs hl
  refine ⟨exec_extiEdge_masked hs hl, fun hen hreg => ?_⟩
  rw [exec_extiEdge_delivered hs hl hen hreg]
  refine ⟨fun hses => ?_, fun hses hfg => ?_, fun i hses hfg => ?_, fun hses => ?_, fun hses => ?_⟩
  · rw [edgeHandler_stray hses, fgCheck_raise, raise_of_none hs.2]
    rfl
  · rw [edgeHandler_early hses hfg, fgCheck_raise, raise_of_none hs.2]
    rfl
  · rw [edgeHandler_rising hses hfg]
    rfl
  · rw [edgeHandler_falling hses]
    rfl
  · rw [edgeHandler_done hses]

end Sys2Proof.Machine
end

section
/-! Runs of a distance read (44_ultrasonic.md R235 to R240): the trigger sequence through its two delays, and a poll
that counts from the full range until its echo or its timeout. -/

namespace Sys2Proof.Machine

/-! ### The trigger sequence (R235, R237) -/

section Trigger

variable {s : State} {i : Nat} {r : Sensor} {n : Ticks} {rest : List Ticks} {k : Continuation}

/-- Nothing is emitted before the last event of a busy run. -/
theorem BusyRun.silent {e : Instr} {m j : Nat} {t : State} (h : BusyRun e m s t) (hj : j < m) :
    ∃ u, execTimes e j s = .next u ∧ u.out = s.out := by
  obtain ⟨u, hrun, -, hout⟩ := h.busy j hj
  exact ⟨u, hrun, hout⟩

/-- A delay of `t` ticks takes `t` ticks, whatever it goes on with. -/
theorem busyRun_of_segments {t : Nat} (hs : s.Live) (ht : s.st.tickint = false) (hseg : segments t = some (n :: rest))
    (hdone : fgArm (delaySegmentDone [] k s) = none) :
    BusyRun .stTick t (s.delaying n n rest k) (delaySegmentDone [] k s) := by
  rw [← sum_segments hseg]
  exact busyRun_delay hs ht hdone (segments_ne_zero hseg)

/-- `s` as the high phase of the trigger leaves it when its delay starts. -/
def triggerRaised (r : Sensor) (s : State) : State :=
  emitCall (.gpioSetPinValue r.trigPort r.trigPin .high) (delayStopped s)

theorem setupDone_eq (hsensor : sensorAt i s = some r) :
    delaySegmentDone [] (.usTrigHigh i) s =
      startDelay (10 * ticksPerUs s.cfg s.st.clkDiv) (.usTrigLow i) (triggerRaised r s) := by
  have hsensor' : sensorAt i (delayStopped s) = some r := hsensor
  rw [delaySegmentDone_usTrigHigh, trigHighPhase, hsensor']
  rfl

theorem pulseDone_eq (hsensor : sensorAt i s = some r) :
    delaySegmentDone [] (.usTrigLow i) s = pollStarted i r s := by
  have hsensor' : sensorAt i (delayStopped s) = some r := hsensor
  rw [delaySegmentDone_usTrigLow, trigLowPhase, hsensor']
  rfl

/-- The setup delay ends in the trigger pulse. -/
theorem busyRun_setup {n' : Ticks} {rest' : List Ticks} (hs : s.Live) (ht : s.st.tickint = false)
    (hsensor : sensorAt i s = some r) (hseg : segments (2 * ticksPerUs s.cfg s.st.clkDiv) = some (n :: rest))
    (hseg' : segments (10 * ticksPerUs s.cfg s.st.clkDiv) = some (n' :: rest')) :
    BusyRun .stTick (2 * ticksPerUs s.cfg s.st.clkDiv) (s.delaying n n rest (.usTrigHigh i))
      ((triggerRaised r s).delaying n' n' rest' (.usTrigLow i)) := by
  have hraised := (setupDone_eq hsensor).trans (startDelay_eq_delaying hseg')
  rw [← hraised]
  exact busyRun_of_segments hs ht hseg (hraised ▸ fgArm_delaying (s := triggerRaised r s) hs.2 n' n')

/-- The trigger pulse ends in a poll. -/
theorem busyRun_pulse {t : Nat} (hs : s.Live) (ht : s.st.tickint = false) (hsensor : sensorAt i s = some r)
    (hses : s.ses.state ≠ .done) (hseg : segments t = some (n :: rest)) :
    BusyRun .stTick t (s.delaying n n rest (.usTrigLow i)) (pollStarted i r s) := by
  rw [← pulseDone_eq hsensor]
  exact busyRun_of_segments hs ht hseg (pulseDone_eq hsensor ▸ fgArm_pollStarted hs.2 hsensor hses)

end Trigger

/-! ### A poll (R238) -/

/-- A read of sensor `i` polls a count that runs from its full range. -/
structure FullRangePoll (i : Nat) (r : Sensor) (s : State) : Prop where
  live : s.Live
  fg : s.fg = .usPoll i
  sensor : sensorAt i s = some r
  pending : s.ses.state ≠ .done
  enable : s.st.enable = true
  load : s.st.load = 0xFFFFFF
  val : s.st.val = 0xFFFFFF

section Poll

variable {s : State} {i k : Nat} {r : Sensor}

/-- `s` as `k` ticks of a count from its full range leave it. -/
def State.afterTicks (s : State) (k : Nat) : State := s.putVal (BitVec.ofNat 24 (16777215 - k))

theorem FullRangePoll.elapsed_afterTicks (h : FullRangePoll i r s) (hk : k ≤ 16777215) :
    elapsed (s.afterTicks k).st = k := by
  have hload : (s.afterTicks k).st.load = 0xFFFFFF := h.load
  have hval : (s.afterTicks k).st.val = BitVec.ofNat 24 (16777215 - k) := rfl
  rw [elapsed, hload, hval]
  bv_omega

theorem FullRangePoll.afterTicks_zero (h : FullRangePoll i r s) : s.afterTicks 0 = s := putVal_self h.val

theorem FullRangePoll.fgArm_afterTicks (h : FullRangePoll i r s) (hk : k ≤ 16777215) (hle : k ≤ r.timeout) :
    fgArm (s.afterTicks k) = none := by
  rw [fgArm_usPoll (s := s.afterTicks k) h.live.2 h.fg]
  exact pollCheck_polling h.sensor h.pending ((h.elapsed_afterTicks hk).trans_le hle)

/-- Within the timeout the ticks only count. -/
theorem FullRangePoll.counts (h : FullRangePoll i r s) (hle : k ≤ r.timeout) (hk : k < 16777215) :
    QuietRun .stTick k s (s.afterTicks k) := by
  have hval : s.st.val.toNat = 16777215 := by
    rw [h.val]
    rfl
  have hrun := quietRun_stTick (k := k) h.live h.enable (by omega) fun j _ hjk => by
    rw [hval]
    exact h.fgArm_afterTicks (by omega) (by omega)
  rwa [hval] at hrun

/-- The tick after the timeout ends the read. -/
theorem FullRangePoll.timesOut (h : FullRangePoll i r s) (hlt : r.timeout < 16777214) :
    exec .stTick (s.afterTicks r.timeout) = .next (readTimedOut r (s.afterTicks (r.timeout + 1))) := by
  have hval : 1 < (s.afterTicks r.timeout).st.val.toNat := by
    have hcount : (s.afterTicks r.timeout).st.val = BitVec.ofNat 24 (16777215 - r.timeout) := rfl
    rw [hcount]
    bv_omega
  have hnext : (s.afterTicks r.timeout).putVal ((s.afterTicks r.timeout).st.val - 1) =
      s.afterTicks (r.timeout + 1) := by
    have hpred : BitVec.ofNat 24 (16777215 - r.timeout) - 1 = BitVec.ofNat 24 (16777215 - (r.timeout + 1)) := by
      bv_omega
    exact congrArg s.putVal hpred
  have hover : r.timeout < elapsed (s.afterTicks (r.timeout + 1)).st := by
    rw [h.elapsed_afterTicks (by omega)]
    exact Nat.lt_succ_self _
  have harm : fgArm (s.afterTicks (r.timeout + 1)) = some (readTimedOut r (s.afterTicks (r.timeout + 1))) := by
    rw [fgArm_usPoll (s := s.afterTicks (r.timeout + 1)) h.live.2 h.fg]
    exact pollCheck_timeout h.sensor h.pending hover
  rw [exec_stTick_down (s := s.afterTicks r.timeout) h.live h.enable hval, hnext,
    fgCheck_of_arm harm (fgArm_of_idle rfl)]

end Poll

/-! ### An echo (R240) -/

section Echo

variable {s : State} {i : Nat} {r : Sensor} {line : Byte} {l : Fin 16}

theorem fullRangePoll_echoRisen (hs : s.Live) (hfg : s.fg = .usPoll i) (hsensor : sensorAt i s = some r) :
    FullRangePoll i r s.echoRisen :=
  ⟨hs, hfg, hsensor, nofun, rfl, rfl, rfl⟩

theorem exec_extiEdge_rising (hs : s.Live) (hfg : s.fg = .usPoll i) (hsensor : sensorAt i s = some r)
    (hses : s.ses.state = .waitingForRisingEdge) (hl : line.toNat = l.val) (hen : s.extiEn[l] = true)
    (hreg : s.extiReg[l] = true) : exec (.extiEdge line) s = .next s.echoRisen := by
  have hpoll := fullRangePoll_echoRisen hs hfg hsensor
  have hsettled : fgArm s.echoRisen = none := by
    rw [← hpoll.afterTicks_zero]
    exact hpoll.fgArm_afterTicks (Nat.zero_le _) (Nat.zero_le _)
  rw [exec_extiEdge_delivered hs hl hen hreg, edgeHandler_rising hses hfg, fgCheck_of_settled hsettled]

/-- The falling edge ends the poll in the same step. -/
theorem exec_extiEdge_falling (hs : s.Live) (hfg : s.fg = .usPoll i) (hsensor : sensorAt i s = some r)
    (hses : s.ses.state = .waitingForFallingEdge) (hl : line.toNat = l.val) (hen : s.extiEn[l] = true)
    (hreg : s.extiReg[l] = true) :
    exec (.extiEdge line) s = .next (State.answer { s.putSt { s.st with enable := false } with
      fg := .idle, ses := { state := .done, distance := 17 * elapsed s.st } }
      .ok (BitVec.ofNat 32 (17 * elapsed s.st))) := by
  have harm : fgArm s.echoFallen = some (respond .ok (BitVec.ofNat 32 s.echoFallen.ses.distance)
      { s.echoFallen with fg := .idle }) := by
    rw [fgArm_usPoll (s := s.echoFallen) hs.2 hfg]
    exact pollCheck_done hsensor rfl
  rw [exec_extiEdge_delivered hs hl hen hreg, edgeHandler_falling hses, fgCheck_of_arm harm (fgArm_of_idle rfl)]
  rfl

end Echo

end Sys2Proof.Machine
end

section
/-! What moves the measurement session (44_ultrasonic.md R241): the issue step of a read, an edge, and the round of the
foreground check that ends a read whose time is over. -/

namespace Sys2Proof.Machine

/-! ### Commands -/

section Commands

variable {s t : State}

/-- A command that leaves the session in a ready block leaves it. -/
theorem command_ses {f : State → State} (h : command f s = .next t) (hf : (f s).ses = s.ses) : t.ses = s.ses := by
  obtain ⟨-, ⟨-, rfl⟩ | ⟨-, rfl⟩⟩ := command_eq_next.mp h
  · exact hf
  · rfl

theorem stChecked_ses {α : Type} {p : Option α} {body : α → State → State} (hbody : ∀ a, (body a s).ses = s.ses) :
    (stChecked p body s).ses = s.ses := by
  rcases stChecked_cases p body s with e | e | ⟨a, -, -, e⟩ <;> rw [e]
  · rfl
  · exact raise_ses _ s
  · exact hbody a

theorem usChecked_ses {α : Type} {id : Byte} {p : Option α} {body : Sensor → α → State → State}
    (hbody : ∀ r a, (body r a s).ses = s.ses) : (usChecked id p body s).ses = s.ses := by
  rcases usChecked_cases id p body s with e | e | ⟨a, r, -, -, -, e⟩ <;> rw [e]
  · rfl
  · exact raise_ses _ s
  · exact hbody r a

theorem blockingDelay_ses (ticks : Nat) (s : State) : (blockingDelay ticks s).ses = s.ses := by
  unfold blockingDelay
  split
  · exact raise_ses _ s
  · rw [fgCheck_of_settled (fgArm_startDelay ticks .respond s)]
    exact (startDelay_frame ticks .respond s).ses

theorem armStInterval_ses (mode : IntervalMode) (us cb : Word) (s : State) :
    (armStInterval mode us cb s).ses = s.ses := by
  refine stChecked_ses fun _ => ?_
  split
  · exact raise_ses _ s
  · rfl

/-- Nothing but a read, a tick of SysTick and an edge touches the session. -/
theorem exec_keeps_ses {i : Instr} (hs : s.ForegroundSettled) (h : exec i s = .next t)
    (hread : ∀ id, i ≠ .usReadDistance id) (htick : i ≠ .stTick) (hedge : ∀ line, i ≠ .extiEdge line) :
    t.ses = s.ses := by
  cases hg : gptTarget i with
  | some sel =>
    obtain ⟨-, -, hses, -, -⟩ := (timersAreIndependent i s t hs h).2 sel hg
    exact hses
  | none =>
    cases i with
    | stInit clk =>
      rw [exec, execStInit] at h
      refine command_ses h ?_
      cases clockSource? clk <;> rfl
    | stInitReload clk reload =>
      rw [exec, execStInitReload] at h
      refine command_ses h ?_
      cases stReload? reload <;> cases clockSource? clk <;> rfl
    | stSetReload | stStart | stStop | stReset | stGetRemaining | stGetElapsed =>
      exact command_ses h (stChecked_ses fun _ => rfl)
    | stDelayUs | stDelayMs => exact command_ses h (stChecked_ses fun _ => blockingDelay_ses _ s)
    | stSetIntervalSingle | stSetIntervalPeriodic => exact command_ses h (armStInterval_ses _ _ _ s)
    | usInit =>
      rw [exec, execUsInit] at h
      refine command_ses h ?_
      split
      · split
        · exact raise_ses _ s
        · rfl
      · rfl
    | usSetRange | usSetState => exact command_ses h (usChecked_ses fun _ _ => rfl)
    | usReadDistance id => exact absurd rfl (hread id)
    | stTick => exact absurd rfl htick
    | extiEdge line => exact absurd rfl (hedge line)
    | _ => cases hg

/-- A read that starts sets the session waiting; any other effect of a command keeps it. -/
theorem commandEffect_ses {i : Instr} (h : CommandEffect i s t) :
    t.ses = s.ses ∨ t.ses.state = .waitingForRisingEdge := by
  cases h with
  | answered | timerWritten | stWritten | sensorInited | sensorWritten => exact .inl rfl
  | raised r => exact .inl (raise_ses r s)
  | @waitIssued _ n u target => exact .inl (fgCheck_timerFrame_of_wait (n := n) (target := target) rfl).ses
  | delayIssued ticks =>
    rw [fgCheck_of_settled (fgArm_startDelay ticks .respond s)]
    exact .inl (startDelay_frame ticks .respond s).ses
  | readIssued k r =>
    rw [startRead_eq_startDelay]
    exact .inr (congrArg Session.state (startDelay_frame _ (.usTrigHigh k) (readPrepared r s)).ses)

theorem exec_usReadDistance_ses {id : Byte} (h : exec (.usReadDistance id) s = .next t) :
    t.ses = s.ses ∨ t.ses.state = .waitingForRisingEdge := by
  rcases exec_next_cases h with (rfl | ⟨-, heff⟩) | ⟨sel, n, hi, -⟩ | ⟨hi, -⟩ | ⟨line, l, hi, -⟩
  · exact .inl rfl
  · exact commandEffect_ses heff
  all_goals cases hi

end Commands

/-! ### The foreground check -/

/-- From `s` the foreground check has ended a read whose time is over. -/
structure ReadEnded (s t : State) : Prop where
  polled : ∃ i, s.fg = .usPoll i
  pending : s.ses.state ≠ .done
  counted : elapsed s.st ≠ 0
  fg : t.fg = .idle
  session : t.ses.state = .idle
  answer : t.out.getLast? = some (.response .ok outOfRange)

theorem fg_of_startDelay_polls {ticks i : Nat} {k : Continuation} {s : State}
    (h : (startDelay ticks k s).fg = .usPoll i) : s.fg = .usPoll i := by
  rcases startDelay_cases ticks k s with e | ⟨n, rest, -, e⟩ <;> rw [e] at h
  · rwa [raise_fg] at h
  · cases h

/-- Only a trigger pulse that ends starts a poll, with no time elapsed. -/
theorem elapsed_of_delaySegmentDone {rest : List Ticks} {k : Continuation} {s : State} {i : Nat}
    (h : (delaySegmentDone rest k s).fg = .usPoll i) : elapsed (delaySegmentDone rest k s).st = 0 := by
  cases rest with
  | cons n rest => cases h
  | nil =>
    cases k with
    | respond => cases h
    | usTrigHigh j =>
      rw [delaySegmentDone_usTrigHigh] at h
      unfold trigHighPhase at h
      split at h
      · rw [raise_fg] at h
        cases h
      · cases fg_of_startDelay_polls h
    | usTrigLow j =>
      rw [delaySegmentDone_usTrigLow] at h ⊢
      unfold trigLowPhase at h ⊢
      split at h
      · rw [raise_fg] at h
        cases h
      · exact elapsed_stStartElapsed _

/-- The foreground check moves the session only where it ends a read: a poll that a round has started has no time
elapsed yet. -/
theorem fgCheck_ses (s : State) : (fgCheck s).ses.state = s.ses.state ∨ ReadEnded s (fgCheck s) := by
  refine (fgCheck_induction (P := fun u => (u.ses.state = s.ses.state ∧
    ∀ i, u.fg = .usPoll i → (s.fg = .usPoll i ∧ u.st = s.st) ∨ elapsed u.st = 0) ∨ ReadEnded s u)
    (.inl ⟨rfl, fun _ hfg => .inl ⟨hfg, rfl⟩⟩) fun u v hu harm => ?_).imp_left And.left
  rcases hu with ⟨hses, hpoll⟩ | hended
  · obtain ⟨-, ⟨n, target, -, -, rfl⟩ | ⟨rest, k, -, -, rfl⟩ | ⟨i, hfg, hround⟩⟩ := fgArm_cases harm
    · exact .inl ⟨hses, nofun⟩
    · exact .inl ⟨(congrArg Session.state (delaySegmentDone_frame rest k u).ses).trans hses,
        fun _ hfg => .inr (elapsed_of_delaySegmentDone hfg)⟩
    · obtain ⟨-, rfl⟩ | ⟨r, -, ⟨-, rfl⟩ | ⟨hpending, hlt, rfl⟩⟩ := hround
      · simp only [raise_ses, raise_fg, raise_st]
        exact .inl ⟨hses, hpoll⟩
      · exact .inl ⟨hses, nofun⟩
      · have helapsed : elapsed u.st ≠ 0 := Nat.ne_zero_of_lt hlt
        obtain ⟨hsfg, hst⟩ := (hpoll i hfg).resolve_right helapsed
        exact .inr ⟨⟨i, hsfg⟩, hses ▸ hpending, hst ▸ helapsed, rfl, rfl, List.getLast?_concat⟩
  · rw [fgArm_of_idle hended.fg] at harm
    cases harm

/-! ### The events -/

/-- A tick of SysTick leaves the session. -/
theorem stCount_ses (s : State) : (stCount s).ses = s.ses := by
  obtain ⟨st, -, e | ⟨-, ⟨r, e⟩ | ⟨cb, e⟩⟩⟩ := stCount_effect s <;> rw [e]
  · rfl
  · exact raise_ses r _
  · rfl

/-- An edge moves the session by the handler alone: no time has elapsed after a rising edge, and the session is done
after a falling one. -/
theorem deliverEdge_ses {s : State} (hs : s.ForegroundSettled) (l : Fin 16) :
    (fgCheck (deliverEdge l s)).ses.state = s.ses.state ∨
    (s.ses.state = .waitingForRisingEdge ∧ (fgCheck (deliverEdge l s)).ses.state = .waitingForFallingEdge) ∨
    (s.ses.state = .waitingForFallingEdge ∧ (fgCheck (deliverEdge l s)).ses.state = .done) := by
  have hsettled : fgCheck s = s := fgCheck_of_settled (fgArm_of_foregroundSettled hs)
  unfold deliverEdge
  split
  · rcases edgeHandler_cases s with ⟨r, e⟩ | ⟨hses, -, e⟩ | ⟨hses, e⟩ | ⟨-, e⟩ <;> rw [e]
    · rw [fgCheck_raise, raise_ses]
      exact .inl rfl
    · exact .inr (.inl ⟨hses, (fgCheck_ses _).resolve_right fun h => h.counted (elapsed_stStartElapsed s.st)⟩)
    · exact .inr (.inr ⟨hses, (fgCheck_ses _).resolve_right fun h => h.pending rfl⟩)
    · rw [hsettled]
      exact .inl rfl
  · rw [hsettled]
    exact .inl rfl

end Sys2Proof.Machine
end

section
/-! The statements of 44_ultrasonic.md about the session and about runs (R232 to R245). -/

namespace Sys2Proof.Machine

/-- Settles O20: only a read, a tick of SysTick and an edge touch the session, each as the table has it. -/
theorem sessionFollowsItsTable : Obligations.SessionFollowsItsTable := by
  intro i s t hs h
  have hlive := live_of_exec h
  cases i with
  | usReadDistance id =>
    exact (exec_usReadDistance_ses h).imp (congrArg Session.state) fun hses => .inl ⟨⟨id, rfl⟩, hses⟩
  | stTick =>
    rw [exec_stTick hlive] at h
    cases h
    rcases fgCheck_ses (stCount s) with hkept | hended
    · exact .inl (hkept.trans (congrArg Session.state (stCount_ses s)))
    · obtain ⟨k, hfg⟩ := hended.polled
      exact .inr (.inr (.inr (.inr
        ⟨rfl, ⟨k, (stCount_timers s).2.symm.trans hfg⟩, hended.fg, hended.session, hended.answer⟩)))
  | extiEdge line =>
    by_cases hline : line.toNat < 16
    · rw [exec, execExtiEdge_of_lt (l := ⟨line.toNat, hline⟩) hlive rfl] at h
      cases h
      rcases deliverEdge_ses hs ⟨line.toNat, hline⟩ with hkept | hmoved | hmoved
      · exact .inl hkept
      · exact .inr (.inr (.inl ⟨⟨line, rfl⟩, hmoved⟩))
      · exact .inr (.inr (.inr (.inl ⟨⟨line, rfl⟩, hmoved⟩)))
    · rw [exec_extiEdge_noLine hlive (Nat.not_lt.mp hline)] at h
      cases h
      exact .inl rfl
  | _ => exact .inl (congrArg Session.state (exec_keeps_ses hs h nofun nofun nofun))

/-- Settles O58: the setup delay runs into the pulse, and the pulse into the poll. -/
theorem triggerPulseLastsTenMicroseconds : Obligations.TriggerPulseLastsTenMicroseconds := by
  intro s id r f hr hid hsensor hon hinit htick hf hpos hlt
  subst hf
  obtain ⟨n, rest, hseg⟩ := segments_eq_cons (t := 2 * ticksPerUs s.cfg s.st.clkDiv) (by omega) (by omega)
  obtain ⟨n', rest', hseg'⟩ := segments_eq_cons (t := 10 * ticksPerUs s.cfg s.st.clkDiv) (by omega) hlt
  have hfree : ¬(s.st.tickint = true ∧ s.st.slot.isSome = true) := by
    rw [htick]
    nofun
  have hissue := exec_usReadDistance_run hr hid hsensor hon hinit hfree
  rw [startDelay_eq_delaying hseg] at hissue
  have hsetup := busyRun_setup (s := readPrepared r s) hr.1 htick hsensor hseg hseg'
  have hpulse := busyRun_pulse (s := triggerRaised r (readPrepared r s)) hr.1 htick hsensor nofun hseg'
  refine ⟨_, _, hissue, fun _ => hsetup.silent, hsetup.run, rfl, fun _ => hpulse.silent, ?_⟩
  have htotal : 12 * ticksPerUs s.cfg s.st.clkDiv =
      2 * ticksPerUs s.cfg s.st.clkDiv + 10 * ticksPerUs s.cfg s.st.clkDiv := by omega
  rw [htotal]
  exact (execTimes_add hsetup.run).trans hpulse.run

/-- Settles O59: the rising edge starts the count, the ticks count, and the falling edge reads `e` off it. -/
theorem echoWidthIsReportedAsDistance : Obligations.EchoWidthIsReportedAsDistance := by
  intro s i r line line' l l' e hs hfg hsensor hses _ hl hen hreg hl' hen' hreg' hle hlt
  have hpoll := fullRangePoll_echoRisen hs hfg hsensor
  have hcounts := hpoll.counts hle hlt
  refine ⟨_, _, exec_extiEdge_rising hs hfg hsensor hses hl hen hreg, hcounts.run, hcounts.last.2, ?_⟩
  rw [exec_extiEdge_falling (s := s.echoRisen.afterTicks e) hs hfg hsensor rfl hl' hen' hreg',
    hpoll.elapsed_afterTicks hlt.le]
  rfl

/-- Settles O60: the ticks up to the timeout only count, and the next one is past it. -/
theorem readTimesOutAfterItsTimeout : Obligations.ReadTimesOutAfterItsTimeout := by
  intro s i r hs hfg hsensor hses _ hen hload hval hlt
  have hpoll : FullRangePoll i r s := by
    refine ⟨hs, hfg, hsensor, fun hdone => ?_, hen, hload, hval⟩
    rcases hses with e | e <;> exact nomatch hdone.symm.trans e
  refine ⟨fun k hk => ?_, ?_⟩
  · have hcounts := hpoll.counts hk (by omega)
    exact ⟨_, hcounts.run, hcounts.last.1.trans hfg, hcounts.last.2⟩
  · rw [execTimes_succ_last (hpoll.counts le_rfl (by omega)).run (hpoll.timesOut hlt)]
    rfl

end Sys2Proof.Machine
end

section
/-! What initialisation sets stays set (70_reset_and_hazards.md R302 (d); 10_state.md R25, R33, R34, R40, R41, R45): the
parameters, the `inited` bits, the callback slots, `OVW`, the sensor records and the `EXTI_REG` bits, each operation
said once. -/

namespace Sys2Proof.Machine

/-! ### What is kept of a unit -/

/-- What a timer never loses (10_state.md R25, R33). -/
structure TimerInitKept (old new : Timer) : Prop where
  inited : old.inited = true → new.inited = true
  slot : old.slot.isSome = true → new.slot.isSome = true

/-- What SysTick never loses (10_state.md R34, R39, R40). -/
structure StInitKept (old new : SysTick) : Prop where
  inited : old.inited = true → new.inited = true
  ovw : old.ovw = true → new.ovw = true
  slot : old.slot.isSome = true → new.slot.isSome = true

/-- What the block never loses (70_reset_and_hazards.md R302 (d)). -/
structure InitKept (s t : State) : Prop where
  cfg : t.cfg = s.cfg
  timers : ∀ n : Fin 4, TimerInitKept s.timers[n] t.timers[n]
  st : StInitKept s.st t.st
  sensors : ∀ i : Nat, (sensorAt i s).isSome = true → (sensorAt i t).isSome = true
  extiReg : ∀ l : Fin 16, s.extiReg[l] = true → t.extiReg[l] = true

theorem TimerInitKept.refl (t : Timer) : TimerInitKept t t := ⟨id, id⟩

theorem StInitKept.refl (st : SysTick) : StInitKept st st := ⟨id, id, id⟩

theorem InitKept.refl (s : State) : InitKept s s := ⟨rfl, fun _ => .refl _, .refl _, fun _ => id, fun _ => id⟩

theorem InitKept.trans {s t u : State} (hst : InitKept s t) (htu : InitKept t u) : InitKept s u where
  cfg := htu.cfg.trans hst.cfg
  timers n := ⟨(htu.timers n).inited ∘ (hst.timers n).inited, (htu.timers n).slot ∘ (hst.timers n).slot⟩
  st := ⟨htu.st.inited ∘ hst.st.inited, htu.st.ovw ∘ hst.st.ovw, htu.st.slot ∘ hst.st.slot⟩
  sensors i := htu.sensors i ∘ hst.sensors i
  extiReg l := htu.extiReg l ∘ hst.extiReg l

theorem SlotWritten.isSome {old new : Option Slot} (h : SlotWritten old new) (ho : old.isSome = true) :
    new.isSome = true := by
  rcases h with rfl | ⟨m, cb, -, rfl⟩
  · exact ho
  · rfl

theorem TimerWritten.initKept {old new : Timer} (h : TimerWritten old new) : TimerInitKept old new :=
  ⟨fun _ => h.inited, h.slot.isSome⟩

theorem TimerTicked.initKept {old new : Timer} (h : TimerTicked old new) : TimerInitKept old new :=
  ⟨h.inited.trans, by rw [h.slot]; exact id⟩

theorem StTicked.initKept {old new : SysTick} (h : StTicked old new) : StInitKept old new :=
  ⟨h.inited.trans, h.ovw.trans, by rw [h.slot]; exact id⟩

theorem stInitKept_stInitWith (d : ClkDiv) (n : Ticks) (st : SysTick) : StInitKept st (stInitWith d n st) :=
  ⟨fun _ => rfl, id, id⟩

/-- Arming an interval may set `OVW`, and never clears it (10_state.md R40, 43_systick.md R208). -/
theorem stInitKept_stArm (m : IntervalMode) (cb : Word) (t : Ticks) (st : SysTick) : StInitKept st (stArm m cb t st) :=
  ⟨id, fun hovw => by simp [overwriteFlag, hovw], fun _ => rfl⟩

/-! ### One write of the state -/

section Writes

variable {s t : State}

/-- SysTick is written, and with it only what `InitKept` does not speak of: the trace, the foreground, the session. -/
theorem initKept_of_st (hst : StInitKept s.st t.st) (hcfg : t.cfg = s.cfg := by rfl)
    (htimers : t.timers = s.timers := by rfl) (hsensors : t.sensors = s.sensors := by rfl)
    (hreg : t.extiReg = s.extiReg := by rfl) : InitKept s t where
  cfg := hcfg
  timers n := htimers ▸ .refl _
  st := hst
  sensors i := by rw [sensorAt_congr hsensors]; exact id
  extiReg l := by rw [hreg]; exact id

/-- A timer is written, and with it only what `InitKept` does not speak of. -/
theorem initKept_of_timer {n : Fin 4} {timer : Timer} (h : TimerInitKept s.timers[n] timer)
    (htimers : t.timers = (s.putTimer n timer).timers := by rfl) (hcfg : t.cfg = s.cfg := by rfl)
    (hst : t.st = s.st := by rfl) (hsensors : t.sensors = s.sensors := by rfl)
    (hreg : t.extiReg = s.extiReg := by rfl) : InitKept s t := by
  refine ⟨hcfg, fun m => ?_, hst ▸ .refl _, fun i => by rw [sensorAt_congr hsensors]; exact id,
    fun l => by rw [hreg]; exact id⟩
  rw [htimers, putTimer_getElem]
  split
  · next hm => exact hm ▸ h
  · exact .refl _

theorem initKept_emit (r : Record) (s : State) : InitKept s (emit r s) := initKept_of_st (.refl _)

theorem initKept_respond (x : Status) (v : Word) (s : State) : InitKept s (respond x v s) := initKept_emit ..

theorem initKept_raise (r : Reason) (s : State) : InitKept s (raise r s) :=
  initKept_of_st (raise_st r s ▸ .refl _) (raise_cfg r s) (raise_timers r s) (raise_sensors r s) (raise_extiReg r s)

theorem initKept_setSensor (k : Nat) (r : Sensor) (s : State) : InitKept s (setSensor k r s) := by
  refine ⟨rfl, fun _ => .refl _, .refl _, fun i hi => ?_, fun _ => id⟩
  obtain ⟨r', hr'⟩ := Option.isSome_iff_exists.mp hi
  by_cases hik : i = k
  · rw [hik, sensorAt_setSensor_same (hik ▸ lt_of_sensorAt hr')]; rfl
  · rwa [sensorAt_setSensor_of_ne hik]

theorem initKept_setExtiReg (l : Nibble) (s : State) : InitKept s (setExtiReg l s) := by
  refine ⟨rfl, fun _ => .refl _, .refl _, fun _ => id, fun m hm => ?_⟩
  show (s.extiReg.set l.toNat true l.isLt)[m.val] = true
  rw [Vector.getElem_set]
  split
  · rfl
  · exact hm

end Writes

/-! ### The delays and the foreground check -/

theorem startDelay_initKept (ticks : Nat) (k : Continuation) (s : State) : InitKept s (startDelay ticks k s) := by
  rcases startDelay_cases ticks k s with e | ⟨n, rest, -, e⟩ <;> rw [e]
  · exact initKept_raise _ s
  · exact initKept_of_st ⟨id, id, id⟩

theorem trigHighPhase_initKept (i : Nat) (s : State) : InitKept s (trigHighPhase i s) := by
  unfold trigHighPhase
  split
  · exact initKept_raise _ s
  · exact (initKept_emit _ s).trans (startDelay_initKept ..)

theorem trigLowPhase_initKept (i : Nat) (s : State) : InitKept s (trigLowPhase i s) := by
  unfold trigLowPhase
  split
  · exact initKept_raise _ s
  · exact initKept_of_st ⟨id, id, id⟩

theorem delaySegmentDone_initKept (rest : List Ticks) (k : Continuation) (s : State) :
    InitKept s (delaySegmentDone rest k s) := by
  cases rest with
  | cons n rest => exact initKept_of_st ⟨id, id, id⟩
  | nil =>
    have hstopped : InitKept s (delayStopped s) := initKept_of_st ⟨id, id, id⟩
    cases k with
    | respond => exact hstopped.trans (initKept_respond ..)
    | usTrigHigh i => exact hstopped.trans (trigHighPhase_initKept i _)
    | usTrigLow i => exact hstopped.trans (trigLowPhase_initKept i _)

theorem readTimedOut_initKept (r : Sensor) (s : State) : InitKept s (readTimedOut r s) := initKept_of_st ⟨id, id, id⟩

theorem fgArm_initKept {s t : State} (h : fgArm s = some t) : InitKept s t := by
  obtain ⟨-, ⟨n, target, -, -, rfl⟩ | ⟨rest, k, -, -, rfl⟩ | ⟨i, -, hpoll⟩⟩ := fgArm_cases h
  · exact initKept_of_timer (n := n) (timer := writeArr 0 { s.timers[n] with cen := false, cnt := 0 }) ⟨id, id⟩
  · exact delaySegmentDone_initKept rest k s
  · obtain ⟨-, rfl⟩ | ⟨r, -, ⟨-, rfl⟩ | ⟨-, -, rfl⟩⟩ := hpoll
    · exact initKept_raise _ s
    · exact initKept_of_st (.refl _)
    · exact readTimedOut_initKept r s

theorem InitKept.fgCheck {s t : State} (h : InitKept s t) : InitKept s (fgCheck t) :=
  fgCheck_induction h fun _ _ hu harm => hu.trans (fgArm_initKept harm)

/-! ### The events -/

theorem gptCount_initKept (n : Fin 4) (s : State) : InitKept s (gptCount n s) := by
  obtain ⟨t, ht, hout⟩ := gptCount_effect n s
  have hput : InitKept s (s.putTimer n t) := initKept_of_timer ht.initKept
  obtain ⟨r, e⟩ | ⟨-, e | ⟨cb, e⟩⟩ := hout <;> rw [e]
  · exact hput.trans (initKept_raise r _)
  · exact hput
  · exact hput.trans (initKept_emit _ _)

theorem stCount_initKept (s : State) : InitKept s (stCount s) := by
  obtain ⟨st, ht, hout⟩ := stCount_effect s
  have hput : InitKept s (s.putSt st) := initKept_of_st ht.initKept
  obtain e | ⟨-, ⟨r, e⟩ | ⟨cb, e⟩⟩ := hout <;> rw [e]
  · exact hput
  · exact hput.trans (initKept_raise r _)
  · exact hput.trans (initKept_emit _ _)

theorem deliverEdge_initKept (l : Fin 16) (s : State) : InitKept s (deliverEdge l s) := by
  unfold deliverEdge
  split
  · rcases edgeHandler_cases s with ⟨r, e⟩ | ⟨-, -, e⟩ | ⟨-, e⟩ | ⟨-, e⟩ <;> rw [e]
    · exact initKept_raise r s
    · exact initKept_of_st ⟨id, id, id⟩
    · exact initKept_of_st ⟨id, id, id⟩
    · exact .refl s
  · exact .refl s

/-! ### The commands -/

section Commands

variable {s t : State}

/-- A command that keeps what is set in a ready block keeps it. -/
theorem command_initKept {f : State → State} (h : command f s = .next t) (hf : InitKept s (f s)) : InitKept s t := by
  obtain ⟨-, ⟨-, rfl⟩ | ⟨-, rfl⟩⟩ := command_eq_next.mp h
  · exact hf
  · exact .refl _

theorem stChecked_initKept {α : Type} {p : Option α} {body : α → State → State}
    (hbody : ∀ a, InitKept s (body a s)) : InitKept s (stChecked p body s) := by
  rcases stChecked_cases p body s with e | e | ⟨a, -, -, e⟩ <;> rw [e]
  · exact initKept_respond ..
  · exact initKept_raise _ s
  · exact hbody a

theorem usChecked_initKept {α : Type} {id : Byte} {p : Option α} {body : Sensor → α → State → State}
    (hbody : ∀ r a, InitKept s (body r a s)) : InitKept s (usChecked id p body s) := by
  rcases usChecked_cases id p body s with e | e | ⟨a, r, -, -, -, e⟩ <;> rw [e]
  · exact initKept_respond ..
  · exact initKept_raise _ s
  · exact hbody r a

theorem blockingDelay_initKept (ticks : Nat) (s : State) : InitKept s (blockingDelay ticks s) := by
  unfold blockingDelay
  split
  · exact initKept_raise _ s
  · exact (startDelay_initKept ticks .respond s).fgCheck

theorem armStInterval_initKept (mode : IntervalMode) (us cb : Word) (s : State) :
    InitKept s (armStInterval mode us cb s) := by
  refine stChecked_initKept fun _ => ?_
  split
  · exact initKept_raise _ s
  · exact initKept_of_st (stInitKept_stArm ..)

theorem usInitBody_initKept (k : Nat) (r : Sensor) (s : State) : InitKept s (usInitBody k r s) := by
  have hrecord := initKept_setSensor k r s
  have hline := hrecord.trans (initKept_setExtiReg r.echoPin _)
  exact hline.trans (initKept_of_st (stInitKept_stInitWith s.cfg.stDefaultDiv 0 s.st))

theorem startRead_initKept (k : Nat) (r : Sensor) (s : State) : InitKept s (startRead k r s) := by
  rw [startRead_eq_startDelay]
  have hprepared : InitKept s (readPrepared r s) := initKept_of_st (.refl _)
  exact hprepared.trans (startDelay_initKept ..)

/-- A GPT command writes its timer or nothing. -/
theorem commandEffect_initKept {i : Instr} {sel : Byte} (hi : gptTarget i = some sel) (h : CommandEffect i s t) :
    InitKept s t := by
  cases h with
  | answered => exact initKept_respond ..
  | raised r => exact initKept_raise r s
  | timerWritten timer draws _ _ hw => exact initKept_of_timer hw.initKept
  | @waitIssued _ n timer target _ _ hw =>
    have hput : InitKept s { s.putTimer n timer with fg := .gptWait n target } := initKept_of_timer hw.initKept
    exact hput.fgCheck
  | stWritten _ hnone | delayIssued _ hnone | sensorInited _ _ hnone | readIssued _ _ hnone
  | sensorWritten _ _ _ hnone => exact absurd (hi.symm.trans hnone) nofun

/-- An instruction of the ST and US units keeps what is set, command by command. -/
theorem exec_initKept_of_noTimer {i : Instr} (hi : gptTarget i = none) (h : exec i s = .next t) : InitKept s t := by
  cases i with
  | stInit clk =>
    rw [exec, execStInit] at h
    refine command_initKept h ?_
    split
    · exact initKept_respond ..
    · exact initKept_of_st (stInitKept_stInitWith ..)
  | stInitReload clk reload =>
    rw [exec, execStInitReload] at h
    refine command_initKept h ?_
    split
    · exact initKept_respond ..
    · exact initKept_respond ..
    · exact initKept_of_st (stInitKept_stInitWith ..)
  | stSetReload | stStart | stStop | stReset =>
    exact command_initKept h (stChecked_initKept fun _ => initKept_of_st ⟨id, id, id⟩)
  | stGetRemaining | stGetElapsed => exact command_initKept h (stChecked_initKept fun _ => initKept_respond ..)
  | stDelayUs | stDelayMs => exact command_initKept h (stChecked_initKept fun _ => blockingDelay_initKept _ s)
  | stSetIntervalSingle | stSetIntervalPeriodic => exact command_initKept h (armStInterval_initKept _ _ _ s)
  | usInit id range echoPin echoPort trigPin trigPort =>
    rw [exec, execUsInit] at h
    refine command_initKept h ?_
    split
    · split
      · exact initKept_raise _ s
      · exact usInitBody_initKept ..
    · exact initKept_respond ..
  | usReadDistance id =>
    refine command_initKept h (usChecked_initKept fun r _ => ?_)
    split
    · split
      · split
        · exact initKept_raise _ s
        · exact startRead_initKept ..
      · exact initKept_raise _ s
    · exact initKept_respond ..
  | usSetRange | usSetState =>
    exact command_initKept h
      (usChecked_initKept fun _ _ => (initKept_setSensor _ _ s).trans (initKept_respond ..))
  | stTick =>
    rw [exec_stTick (live_of_exec h)] at h
    cases h
    exact (stCount_initKept s).fgCheck
  | extiEdge line =>
    rw [exec, execExtiEdge, event_eq_next] at h
    obtain ⟨-, rfl⟩ := h
    split
    · exact (deliverEdge_initKept _ s).fgCheck
    · exact .refl s
  | _ => cases hi

end Commands

theorem exec_initKept {i : Instr} {s t : State} (h : exec i s = .next t) : InitKept s t := by
  cases hi : gptTarget i with
  | none => exact exec_initKept_of_noTimer hi h
  | some sel =>
    rcases exec_next_cases h with (rfl | ⟨-, heff⟩) | ⟨-, n, -, -, rfl⟩ | ⟨rfl, -⟩ | ⟨line, l, rfl, -⟩
    · exact .refl _
    · exact commandEffect_initKept hi heff
    · exact (gptCount_initKept n s).fgCheck
    all_goals cases hi

/-- Every step keeps what is set: it runs an instruction, or answers ILLEGAL, or takes words that are no frame. -/
theorem step_initKept {s t : State} (h : step s = .next t) : InitKept s t := by
  obtain ⟨-, ⟨-, rfl⟩ | ⟨p, rest, s', -, rfl, hrun⟩⟩ := step_next_cases h
  · exact .refl _
  · have htaken : InitKept s { s with input := remainingInput p rest } := initKept_of_st (.refl _)
    obtain ⟨i, -, he⟩ | ⟨-, he⟩ | ⟨-, rfl⟩ := hrun
    · exact htaken.trans (exec_initKept he)
    · exact htaken.trans (command_initKept he (initKept_respond ..))
    · exact htaken

end Sys2Proof.Machine
end

section
/-! The statements of 70_reset_and_hazards.md (R301, R302). -/

namespace Sys2Proof.Machine

theorem resetWith_ready {c : Config} (hw : wellFormedConfig c = true) : (State.resetWith c).Ready := ⟨⟨hw, rfl⟩, rfl⟩

theorem exec_gptTick_noTimer {sel : Byte} {s : State} (h : s.Live) (hsel : 4 ≤ sel.toNat) :
    exec (.gptTick sel) s = .next s := by
  rw [exec, execGptTick, event_of_live h, timerIndex?_of_ge hsel]

/-- Settles O13: nothing counts and no line is enabled, so an event finds a stopped timer, a stopped SysTick or a masked
line, and no foreground to complete. -/
theorem resetIsQuiet : Obligations.ResetIsQuiet := by
  intro c hw
  have hr := resetWith_ready hw
  have hcen : ∀ n : Fin 4, (State.resetWith c).timers[n].cen = false := fun n => by rw [resetWith_timer]; rfl
  have huie : ∀ n : Fin 4, (State.resetWith c).timers[n].uie = false := fun n => by rw [resetWith_timer]; rfl
  have hline : ∀ l : Fin 16, (State.resetWith c).extiEn[l] = false := fun l => (resetWith_ext c l).1
  refine ⟨hr, fun n => ⟨huie n, hcen n⟩, rfl, rfl, hline, fun sel => ?_, exec_stTick_rests hr rfl, fun line => ?_⟩
  · by_cases hsel : sel.toNat < 4
    · exact exec_gptTick_stopped hr (n := ⟨sel.toNat, hsel⟩) rfl (hcen _)
    · exact exec_gptTick_noTimer hr.1 (Nat.not_lt.mp hsel)
  · by_cases hl : line.toNat < 16
    · have hmasked : ¬ (State.resetWith c).extiEn[(⟨line.toNat, hl⟩ : Fin 16)] = true :=
        Bool.eq_false_iff.mp (hline _)
      rw [exec_extiEdge_masked hr.1 (l := ⟨line.toNat, hl⟩) rfl fun hon => hmasked hon.1, fgCheck_of_idle hr.2]
    · exact exec_extiEdge_noLine hr.1 (Nat.not_lt.mp hl)

/-- Settles O16: every step keeps what is set of every unit. -/
theorem stepNeverUndoesInitialisation : Obligations.StepNeverUndoesInitialisation := by
  intro s t hstep
  obtain ⟨hcfg, htimers, hst, hsensors, hreg⟩ := step_initKept hstep
  exact ⟨hcfg, fun n => ⟨(htimers n).inited, (htimers n).slot⟩, hst.inited, hst.ovw, hst.slot, hsensors, hreg⟩

end Sys2Proof.Machine
end
